-- ==== Sys2Proof/Word.lean ====
section
/-! DEFINITION. The byte, and the index types of the numbered things the part holds
(00_scope.md, Conventions: ids and slots are counted from 0). -/

namespace Sys2Proof

/-- An octet on any of the three ports. -/
abbrev Byte := BitVec 8

/-- A session record, 0–5 (R51). -/
abbrev SessionId := Fin 6

/-- A playout client, 0–5 (R157). -/
abbrev ClientId := Fin 6

/-- A fetch slot, 0–11 (R119). -/
abbrev SlotId := Fin 12

/-- A ladder slot, 0–7 (R33). -/
abbrev LadderId := Fin 8

/-- A 7-bit target address on the playout link (R157). -/
abbrev PlayoutAddress := BitVec 7

end Sys2Proof
end

