-- ==== Sys2Proof/Config.lean ====
section
/-! DEFINITION. What the spec leaves open, as free values: constants with no body, so that no proof can
lean on one of their values. -/

namespace Sys2Proof.Config

/-- DESIGN CHOICE (log 2): which of several events of the part's own that are due at the same moment is
taken first. The rules that speak of events arriving together (R9, R11, R71, R114, R115, R129, R133, R136,
R139, R156, R170) call either order correct. The argument is the model's counter of open choices. -/
opaque tieBreak : Nat → Nat

/-- DESIGN CHOICE (log 3): when one event cancels two or more fetches of a session (R68, R122, R152), whether
their tags join the cancel list from the tail of the ledger rather than from its head. The spec gives no order. The
argument is the model's counter of open choices. -/
opaque cancelTailFirst : Nat → Bool

end Sys2Proof.Config
end

