-- ==== Sys2Proof/Syntax.lean ====
section
/-! DEFINITION. The commands: one constructor per row of spec/opcode_table.json. A control request carries the
payload bytes of its frame, so that a frame of the wrong declared length is a case of the command (R174). -/

namespace Sys2Proof

/-- The five results a DONE may report (R117, 11.3). -/
inductive DoneResult where
  | complete
  | truncated
  | unavailable
  | failed
  | cancelled
  deriving DecidableEq, Repr

/-- The two ways a fetch record is bad (R118, R188). -/
inductive BadRecord where
  /-- A record code that is not one of the six. -/
  | unknownCode (code : Byte)
  /-- A DONE of thirteen bytes whose result byte is not one of the five, whatever its tag. -/
  | unknownResult (tag : Byte) (result : Byte)
  deriving DecidableEq, Repr

/-- The commands the part takes, and the events of its own. -/
inductive Instr where
  /-- Release of RESET_N, the straps PADR2–PADR0 having been sampled while it was low (R184, R157). -/
  | powerOn (straps : BitVec 3)
  | setLink (payload : List Byte)
  | readLink (payload : List Byte)
  | load (payload : List Byte)
  | commit (payload : List Byte)
  | patch (payload : List Byte)
  | readLadder (payload : List Byte)
  | openSession (payload : List Byte)
  | configure (payload : List Byte)
  | start (payload : List Byte)
  | holdPlayout (payload : List Byte)
  | resumePlayout (payload : List Byte)
  | endSession (payload : List Byte)
  | seek (payload : List Byte)
  | closeSession (payload : List Byte)
  | setReservation (payload : List Byte)
  | clearReservation (payload : List Byte)
  | readSession (payload : List Byte)
  | readLedger (payload : List Byte)
  | bindClient (payload : List Byte)
  | unbindClient (payload : List Byte)
  | readClient (payload : List Byte)
  | readNotices (payload : List Byte)
  | setNoticeEnable (payload : List Byte)
  | resetPart (payload : List Byte)
  /-- A control frame whose request code is not one of the twenty-four (R174). -/
  | unknownRequest (code : Byte) (payload : List Byte)
  /-- Release of CSEL_N, before a frame is taken or after (R173). -/
  | controlFrameDiscard
  | take
  | arrival (tag : Byte) (count : BitVec 16)
  | done (tag : Byte) (result : DoneResult) (total : BitVec 32) (token : BitVec 32) (duration : BitVec 16)
  | pause
  | resume
  | linkReset
  | badRecord (bad : BadRecord)
  /-- Release of FSEL_N, before a record is taken or during its answer (R117). -/
  | fetchRecordDiscard
  | next (address : PlayoutAddress)
  | progress (address : PlayoutAddress) (elapsed : BitVec 16)
  /-- A write transfer of one or more bytes that form no request (R159). -/
  | malformedTransfer (address : PlayoutAddress) (bytes : List Byte)
  /-- A read transfer of `count` bytes (R158). -/
  | playoutReadTransfer (address : PlayoutAddress) (count : Nat)
  | windowExpiry
  | stallWatchdogExpiry (slot : SlotId)
  | notBeforeReached (session : SessionId) (segment : BitVec 32)
  | grant
  | resetNFalls
  deriving DecidableEq, Repr

end Sys2Proof
end

