-- ==== Sys2Proof/WellFormed.lean ====
section
/-! DEFINITION. Which terms of `Instr` are commands that can reach the part: what the byte formats of the three
ports admit (R172, R174, R117, R188, R159). -/

namespace Sys2Proof

/-- The twenty-four request codes, 0x01–0x18 (R174, 11.2). -/
def isRequestCode (code : Byte) : Bool := decide (1 ≤ code.toNat ∧ code.toNat ≤ 0x18)

/-- The six record codes of the fetch port, 0x01–0x06 (R117, 11.3). -/
def isRecordCode (code : Byte) : Bool := decide (1 ≤ code.toNat ∧ code.toNat ≤ 6)

/-- The five result values of a DONE, 1–5 (R117, 11.3). -/
def isDoneResult (result : Byte) : Bool := decide (1 ≤ result.toNat ∧ result.toNat ≤ 5)

/-- The payload of a frame is counted by one length byte; above 250 it is still a count (R172). -/
def isPayload (payload : List Byte) : Bool := decide (payload.length ≤ 255)

/-- The bytes of a write transfer form no request: an unknown code, a NEXT with payload, or a PROGRESS with other than
two payload bytes (R159). No byte at all is no transfer to judge (R158). -/
def isMalformedTransfer : List Byte → Bool
  | [] => false
  | code :: payload =>
    !((code.toNat == 1 && payload.length == 0) || (code.toNat == 2 && payload.length == 2))

/-- What the ports can deliver. -/
def BadRecord.wf : BadRecord → Bool
  | .unknownCode code => !isRecordCode code
  | .unknownResult _ result => !isDoneResult result

/-- What the ports can deliver. -/
def Instr.wf : Instr → Bool
  | .powerOn _ => true
  | .setLink p => isPayload p
  | .readLink p => isPayload p
  | .load p => isPayload p
  | .commit p => isPayload p
  | .patch p => isPayload p
  | .readLadder p => isPayload p
  | .openSession p => isPayload p
  | .configure p => isPayload p
  | .start p => isPayload p
  | .holdPlayout p => isPayload p
  | .resumePlayout p => isPayload p
  | .endSession p => isPayload p
  | .seek p => isPayload p
  | .closeSession p => isPayload p
  | .setReservation p => isPayload p
  | .clearReservation p => isPayload p
  | .readSession p => isPayload p
  | .readLedger p => isPayload p
  | .bindClient p => isPayload p
  | .unbindClient p => isPayload p
  | .readClient p => isPayload p
  | .readNotices p => isPayload p
  | .setNoticeEnable p => isPayload p
  | .resetPart p => isPayload p
  | .unknownRequest code p => !isRequestCode code && isPayload p
  | .controlFrameDiscard => true
  | .take => true
  | .arrival _ _ => true
  | .done _ _ _ _ _ => true
  | .pause => true
  | .resume => true
  | .linkReset => true
  | .badRecord bad => bad.wf
  | .fetchRecordDiscard => true
  | .next _ => true
  | .progress _ _ => true
  | .malformedTransfer _ bytes => isMalformedTransfer bytes
  | .playoutReadTransfer _ _ => true
  | .windowExpiry => true
  | .stallWatchdogExpiry _ => true
  | .notBeforeReached _ _ => true
  | .grant => true
  | .resetNFalls => true

end Sys2Proof
end

