-- ==== Sys2Proof/Decode.lean ====
section
/-! DEFINITION. From the bytes on the three ports to commands and back (R172, R174, R117, R188, R158, 11.1–11.4), the
byte order of every layout (R185), and `decodeTableWord`: no row of spec/opcode_table.json gives bits. -/

namespace Sys2Proof

/-- The number some bytes spell, most significant byte first (R185). -/
def beNat (bytes : List Byte) : Nat := bytes.foldl (fun n b => n * 256 + b.toNat) 0

/-- The low `8 * k` bits of a number as `k` bytes, most significant byte first (R185). -/
def beBytes : Nat → Nat → List Byte
  | 0, _ => []
  | k + 1, n => beBytes k (n / 256) ++ [BitVec.ofNat 8 n]

/-- The field of `size` bytes at an offset of a frame or record (chapter 11). -/
def beField (bytes : List Byte) (offset size : Nat) : Nat := beNat ((bytes.drop offset).take size)

/-- The result a byte names (11.3). -/
def doneResultOf (result : Byte) : Option DoneResult :=
  match result.toNat with
  | 1 => some .complete
  | 2 => some .truncated
  | 3 => some .unavailable
  | 4 => some .failed
  | 5 => some .cancelled
  | _ => none

/-- The byte that names a result (11.3). -/
def doneResultCode : DoneResult → Byte
  | .complete => 1
  | .truncated => 2
  | .unavailable => 3
  | .failed => 4
  | .cancelled => 5

/-- The command of a control frame that has been taken, by its request code (R174, 11.2). -/
def controlCommand (code : Byte) (payload : List Byte) : Instr :=
  match code.toNat with
  | 0x01 => .setLink payload
  | 0x02 => .readLink payload
  | 0x03 => .load payload
  | 0x04 => .commit payload
  | 0x05 => .patch payload
  | 0x06 => .readLadder payload
  | 0x07 => .openSession payload
  | 0x08 => .configure payload
  | 0x09 => .start payload
  | 0x0A => .holdPlayout payload
  | 0x0B => .resumePlayout payload
  | 0x0C => .endSession payload
  | 0x0D => .seek payload
  | 0x0E => .closeSession payload
  | 0x0F => .setReservation payload
  | 0x10 => .clearReservation payload
  | 0x11 => .readSession payload
  | 0x12 => .readLedger payload
  | 0x13 => .bindClient payload
  | 0x14 => .unbindClient payload
  | 0x15 => .readClient payload
  | 0x16 => .readNotices payload
  | 0x17 => .setNoticeEnable payload
  | 0x18 => .resetPart payload
  | _ => .unknownRequest code payload

/-- The bytes of one select period of the control port: the request taken once its declared payload has arrived,
whatever follows; none while the frame is not whole (R172, R173). -/
def decodeControlFrame : List Byte → Option Instr
  | code :: length :: rest =>
    if rest.length < length.toNat then none else some (controlCommand code (rest.take length.toNat))
  | _ => none

/-- The bytes of one select period of the fetch port: the record taken at the last byte its code requires, an unknown code
at its first byte; none while the record is not whole (R117, R188). -/
def decodeFetchRecord : List Byte → Option Instr
  | [] => none
  | code :: rest =>
    match code.toNat with
    | 0x01 => some .take
    | 0x02 =>
      match rest with
      | tag :: c1 :: c0 :: _ => some (.arrival tag (BitVec.ofNat 16 (beNat [c1, c0])))
      | _ => none
    | 0x03 =>
      match rest with
      | tag :: result :: t3 :: t2 :: t1 :: t0 :: k3 :: k2 :: k1 :: k0 :: d1 :: d0 :: _ =>
        match doneResultOf result with
        | some r =>
          some (.done tag r (BitVec.ofNat 32 (beNat [t3, t2, t1, t0])) (BitVec.ofNat 32 (beNat [k3, k2, k1, k0]))
            (BitVec.ofNat 16 (beNat [d1, d0])))
        | none => some (.badRecord (.unknownResult tag result))
      | _ => none
    | 0x04 => some .pause
    | 0x05 => some .resume
    | 0x06 => some .linkReset
    | _ => some (.badRecord (.unknownCode code))

/-- The bytes of one write transfer after the address; none where no byte followed it (R158, R159). -/
def decodePlayoutWrite (address : PlayoutAddress) : List Byte → Option Instr
  | [] => none
  | code :: payload =>
    match code.toNat, payload with
    | 0x01, [] => some (.next address)
    | 0x02, [e1, e0] => some (.progress address (BitVec.ofNat 16 (beNat [e1, e0])))
    | _, _ => some (.malformedTransfer address (code :: payload))

/-- The request code and the payload of a control request (11.2); none for a command of another port. -/
def controlRequest : Instr → Option (Byte × List Byte)
  | .setLink p => some (0x01, p)
  | .readLink p => some (0x02, p)
  | .load p => some (0x03, p)
  | .commit p => some (0x04, p)
  | .patch p => some (0x05, p)
  | .readLadder p => some (0x06, p)
  | .openSession p => some (0x07, p)
  | .configure p => some (0x08, p)
  | .start p => some (0x09, p)
  | .holdPlayout p => some (0x0A, p)
  | .resumePlayout p => some (0x0B, p)
  | .endSession p => some (0x0C, p)
  | .seek p => some (0x0D, p)
  | .closeSession p => some (0x0E, p)
  | .setReservation p => some (0x0F, p)
  | .clearReservation p => some (0x10, p)
  | .readSession p => some (0x11, p)
  | .readLedger p => some (0x12, p)
  | .bindClient p => some (0x13, p)
  | .unbindClient p => some (0x14, p)
  | .readClient p => some (0x15, p)
  | .readNotices p => some (0x16, p)
  | .setNoticeEnable p => some (0x17, p)
  | .resetPart p => some (0x18, p)
  | .unknownRequest code p => some (code, p)
  | .powerOn _ => none
  | .controlFrameDiscard => none
  | .take => none
  | .arrival _ _ => none
  | .done _ _ _ _ _ => none
  | .pause => none
  | .resume => none
  | .linkReset => none
  | .badRecord _ => none
  | .fetchRecordDiscard => none
  | .next _ => none
  | .progress _ _ => none
  | .malformedTransfer _ _ => none
  | .playoutReadTransfer _ _ => none
  | .windowExpiry => none
  | .stallWatchdogExpiry _ => none
  | .notBeforeReached _ _ => none
  | .grant => none
  | .resetNFalls => none

/-- The bytes the host shifts in for a control request: code, length, payload (R172). -/
def encodeControlFrame (i : Instr) : Option (List Byte) :=
  (controlRequest i).map fun (code, payload) => code :: BitVec.ofNat 8 payload.length :: payload

/-- The bytes the network engine shifts in for a fetch record (11.3). -/
def encodeFetchRecord : Instr → Option (List Byte)
  | .take => some [0x01]
  | .arrival tag count => some (0x02 :: tag :: beBytes 2 count.toNat)
  | .done tag result total token duration =>
    some (0x03 :: tag :: doneResultCode result ::
      (beBytes 4 total.toNat ++ beBytes 4 token.toNat ++ beBytes 2 duration.toNat))
  | .pause => some [0x04]
  | .resume => some [0x05]
  | .linkReset => some [0x06]
  | .badRecord (.unknownCode code) => some [code]
  | .badRecord (.unknownResult tag result) => some (0x03 :: tag :: result :: beBytes 10 0)
  | _ => none

/-- The address and the bytes of a playout write transfer (11.4). -/
def encodePlayoutWrite : Instr → Option (PlayoutAddress × List Byte)
  | .next address => some (address, [0x01])
  | .progress address elapsed => some (address, 0x02 :: beBytes 2 elapsed.toNat)
  | .malformedTransfer address bytes => some (address, bytes)
  | _ => none

/-- The command a word spells by the bits of spec/opcode_table.json: none, since no row gives bits (log 19). -/
def decodeTableWord (_nbits _w : Nat) : Option Instr := none

end Sys2Proof
end

