-- ==== Sys2Proof/Machine/State.lean ====
section
/-! DEFINITION. The state of the part: every register, buffer, ledger, slot, record, port holding and pin the spec gives it,
the model's own fields, and the values after power-on. -/

namespace Sys2Proof.Machine

/-- The spec names nothing that stops the part: no command faults. -/
inductive Fault where
  deriving DecidableEq, Repr

/-- Why a command has no outcome. -/
inductive Refusal where
  /-- Raised by `exec` for a row that has no meaning yet; safe (nothing is claimed of it). -/
  | notModelled (mnemonic : String)
  /-- Raised by the meanings of UNKNOWN_REQUEST, BAD_RECORD and MALFORMED_TRANSFER for a term that is not such a command
  (a known request code, a known record code or result, bytes that form a request); safe: no port delivers it (log 15). -/
  | notACommand (mnemonic : String)
  deriving DecidableEq, Repr

/-! ### Link parameters and Link Meter -/

/-- The eight link parameters that SET-LINK writes (R15, R19, R134, R142). -/
structure LinkParams where
  windowLength : Nat
  thinThreshold : Nat
  initialEstimate : Nat
  safety : Nat
  headroom : Nat
  stallLimit : Nat
  retryInterval : Nat
  holdTimeout : Nat
  deriving DecidableEq, Repr

/-- Values after power-on (R13, R19, R134, R142). -/
def LinkParams.powerOn : LinkParams where
  windowLength := 100
  thinThreshold := 4096
  initialEstimate := 2000
  safety := 218
  headroom := 0
  stallLimit := 1500
  retryInterval := 250
  holdTimeout := 4000

/-- The Link Meter (chapter 1, state table). `capacity` is also the value last presented to the Budget Allocator (R8). -/
structure Meter where
  fast : Nat
  slow : Nat
  capacity : Nat
  windowBytes : Nat
  windowElapsed : Nat
  windowLength : Nat
  paused : Bool
  lastSample : Option Nat
  samples : Nat
  halvings : Nat
  thinWindows : Nat
  deriving DecidableEq, Repr

/-- The Link Meter reinitialised whole, from the link parameters held (R13, R14). -/
def Meter.initial (p : LinkParams) : Meter where
  fast := p.initialEstimate
  slow := p.initialEstimate
  capacity := p.initialEstimate
  windowBytes := 0
  windowElapsed := 0
  windowLength := p.windowLength
  paused := false
  lastSample := none
  samples := 0
  halvings := 0
  thinWindows := 0

/-! ### Ladder Store -/

/-- A rung record (R33). -/
structure Rung where
  bitrate : Nat
  lines : Nat
  profile : Byte
  locator : BitVec 16
  enabled : Bool
  deriving DecidableEq, Repr

/-- A ladder slot: its rung count is the length of `rungs`; the duration reads 0 while there are none (R33). -/
structure Ladder where
  nominal : Nat
  rungs : List Rung
  deriving DecidableEq, Repr

/-- A slot before its first commit (R50). -/
def Ladder.empty : Ladder := ⟨0, []⟩

/-- A staging buffer: offset and byte pairs, offsets strictly rising and below 128, no byte 0; an unlisted offset reads 0,
its value after power-on (R50). -/
abbrev Memory := List Host.Cell

/-! ### Segment Ledger -/

/-- The states of an entry (R76, 11.6). -/
inductive EntryState where
  | waiting
  | queued
  | active
  | ready
  | playing
  deriving DecidableEq, Repr

/-- The issue copies of an entry and its expected bytes (R76); the kept copies of a CANCELLING slot (R119). -/
structure Issue where
  rung : Nat
  bitrate : Nat
  profile : Byte
  lines : Nat
  locator : BitVec 16
  nominal : Nat
  expected : Nat
  deriving DecidableEq, Repr

/-- An entry in a ledger (R76). -/
structure Entry where
  segment : Nat
  state : EntryState
  issue : Issue
  reported : Option Nat
  tag : Option Nat
  arrived : Nat
  total : Option Nat
  token : Option (BitVec 32)
  attempts : Nat
  notBefore : Option Nat
  unavailableSince : Option Nat
  upperBound : Option Nat
  short : Bool
  lowered : Bool
  retried : Bool
  remaining : Option Nat
  deriving DecidableEq, Repr

/-- What a slot names: an entry by its session and its segment number, unique in the session's ledger (R87). -/
structure EntryRef where
  session : SessionId
  segment : Nat
  deriving DecidableEq, Repr

/-! ### Session Table -/

/-- The seven states of a session (R51). -/
inductive SessionState where
  | closed
  | opened
  | priming
  | running
  | starved
  | draining
  | faulted
  deriving DecidableEq, Repr

/-- Configuration field 2 (R52). -/
inductive SessionClass where
  | viewed
  | background
  deriving DecidableEq, Repr

/-- Configuration field 5 (R52). -/
inductive Pipeline where
  | conservative
  | pipelined
  deriving DecidableEq, Repr

/-- Configuration field 6 (R52). -/
inductive Policy where
  | hold
  | descend
  | skip
  | halt
  deriving DecidableEq, Repr

/-- A host restriction on the rung choice (R62). -/
inductive Reservation where
  | unreserved
  | pin (rung : Nat)
  | cap (rung : Nat)
  deriving DecidableEq, Repr

/-- The nineteen fields of the configuration record (R52). -/
structure SessionConfig where
  ladderSlot : LadderId
  sessionClass : SessionClass
  weight : Nat
  depthLimit : Nat
  pipeline : Pipeline
  policy : Policy
  retryLimit : Nat
  startLevel : Nat
  restartLevel : Nat
  panicLevel : Nat
  steadyLevel : Nat
  fullLevel : Nat
  hysteresis : Nat
  startCap : Nat
  dwellSetting : Nat
  upMargin : Nat
  abandonGuard : Nat
  firstSegment : Nat
  lastSegment : Option Nat
  deriving DecidableEq, Repr

/-- Values after power-on and RESET-PART (R52). -/
def SessionConfig.default : SessionConfig where
  ladderSlot := 0
  sessionClass := .viewed
  weight := 4
  depthLimit := 8
  pipeline := .conservative
  policy := .hold
  retryLimit := 3
  startLevel := 4000
  restartLevel := 4000
  panicLevel := 2000
  steadyLevel := 8000
  fullLevel := 20000
  hysteresis := 4000
  startCap := 2
  dwellSetting := 3
  upMargin := 294
  abandonGuard := 1000
  firstSegment := 0
  lastSegment := none

/-- The eight counters of a session (R73). -/
structure Statistics where
  handed : Nat
  upSwitches : Nat
  downSwitches : Nat
  starvations : Nat
  stalls : Nat
  abandonments : Nat
  skips : Nat
  bytesArrived : Nat
  deriving DecidableEq, Repr

/-- Every counter at 0 (R57, R73). -/
def Statistics.zero : Statistics := ⟨0, 0, 0, 0, 0, 0, 0, 0⟩

/-- A session record, with the share the Budget Allocator gives it (R24) and its ledger, head first (R87). -/
structure Session where
  state : SessionState
  held : Bool
  parked : Bool
  gateOpen : Bool
  tainted : Bool
  config : SessionConfig
  currentRung : Option Nat
  dwell : Nat
  reservation : Reservation
  nextSegment : Nat
  stats : Statistics
  share : Nat
  ledger : List Entry
  deriving DecidableEq, Repr

/-- Values after power-on and RESET-PART (R75, R97, R31). -/
def Session.initial : Session where
  state := .closed
  held := false
  parked := false
  gateOpen := true
  tainted := false
  config := SessionConfig.default
  currentRung := none
  dwell := 0
  reservation := .unreserved
  nextSegment := 0
  stats := Statistics.zero
  share := 0
  ledger := []

/-! ### Fetch Order Unit -/

/-- A fetch slot with the fields of its state (R119); `elapsed` and `limit` are the stall watchdog's (R135). `owed`: the slot's watchdog
expired together with another whose expiry faulted the session and cancelled this fetch, and its own halving is still to come (R9, R136;
log 23). -/
inductive Slot where
  | free
  | queued (tag : Nat) (entry : EntryRef)
  | taken (tag : Nat) (entry : EntryRef) (elapsed : Nat) (limit : Nat)
  | cancelling (tag : Nat) (back : Option EntryRef) (kept : Issue) (owed : Bool)
  deriving DecidableEq, Repr

/-- The answers of the fetch port (11.3). -/
inductive FetchAnswer where
  | order (tag : Nat) (session : SessionId) (locator : BitVec 16) (segment : Nat) (expected : Nat) (bitrate : Nat)
  | cancel (tag : Nat)
  | nothing
  | ack
  | kept
  | cleared
  | notTaken
  | unknownTag
  | badRecord
  deriving DecidableEq, Repr

/-! ### Playout Link Unit -/

/-- Reasons of WAIT (R163, 11.4). -/
inductive WaitReason where
  | priming
  | held
  | starved
  | draining
  deriving DecidableEq, Repr

/-- Reasons of HALT (R163, 11.4). -/
inductive HaltReason where
  | idle
  | ended
  | fault
  deriving DecidableEq, Repr

/-- The fields of a SEGMENT answer (R164). -/
structure HandedSegment where
  session : SessionId
  segment : Nat
  rung : Nat
  bitrate : Nat
  profile : Byte
  lines : Nat
  duration : Nat
  total : Nat
  token : BitVec 32
  switch : Bool
  gap : Bool
  short : Bool
  lowered : Bool
  retried : Bool
  deriving DecidableEq, Repr

/-- The answers of the playout link (11.4). -/
inductive PlayoutAnswer where
  | noAnswer
  | segment (handed : HandedSegment)
  | wait (reason : WaitReason) (flushed : Bool)
  | halt (reason : HaltReason) (flushed : Bool)
  | notBound
  | badRequest
  | ignored
  | noted (remaining : Nat) (buffered : Nat)
  deriving DecidableEq, Repr

/-- The segment most recently handed to a client (chapter 9, state table). -/
structure LastHanded where
  segment : Nat
  rung : Nat
  bitrate : Nat
  profile : Byte
  deriving DecidableEq, Repr

/-- A client record (chapter 9, state table). -/
structure Client where
  binding : Option SessionId
  flushPending : Bool
  gapPending : Bool
  lastHanded : Option LastHanded
  answer : PlayoutAnswer
  deriving DecidableEq, Repr

/-- Values after power-on and RESET-PART (R162). -/
def Client.initial : Client := ⟨none, false, false, none, .noAnswer⟩

/-! ### Control Port -/

/-- The request being shifted in (chapter 10, state table): its code, the declared length once its byte has arrived, and the payload
bytes received so far. -/
structure ControlFrame where
  code : Byte
  length : Option Byte
  payload : List Byte
  deriving DecidableEq, Repr

/-- The status classes and codes with their details (R175). -/
inductive Status where
  | normal
  | clamped (fields : Nat)
  | unknownRequest
  | length (required : Nat)
  | index (detail : Nat)
  | ordering (field : Nat)
  | ladder (rung : Nat)
  | wrongState (state : SessionState)
  | locked (field : Nat)
  | ladderEmpty
  | reserved
  | clientBound (session : SessionId)
  | sessionBound (client : ClientId)
  deriving DecidableEq, Repr

/-- The response holding (chapter 10, state table). -/
structure Response where
  status : Status
  payload : List Byte
  deriving DecidableEq, Repr

/-- The seven notice kinds of session scope (R179). -/
inductive SessionKind where
  | playoutReady
  | starved
  | switched
  | skipped
  | faulted
  | drained
  | tainted
  deriving DecidableEq, Repr

/-- The five notice kinds of part scope (R179). -/
inductive PartKind where
  | congestion
  | parking
  | fetchProtocol
  | clientProtocol
  | linkReset
  deriving DecidableEq, Repr

/-! ### The part -/

/-- The whole state. -/
structure State where
  /-- The link parameters (R15). -/
  params : LinkParams
  /-- The Link Meter (chapter 1). -/
  meter : Meter
  /-- The usable budget U (R20). -/
  usable : Nat
  /-- The parking-in-force flag (R25). -/
  parkingInForce : Bool
  /-- The congested flag (R30). -/
  congested : Bool
  /-- The eight ladder slots (R33). -/
  ladders : Vector Ladder 8
  /-- Staging buffer A (R34). -/
  stagingA : Memory
  /-- Staging buffer B (R34). -/
  stagingB : Memory
  /-- The six session records with their ledgers (R51, R87). -/
  sessions : Vector Session 6
  /-- The pool's free count (R89). -/
  poolFree : Nat
  /-- The twelve fetch slots (R119). -/
  slots : Vector Slot 12
  /-- Where the search for the next tag begins (R120). -/
  tagCounter : Nat
  /-- The QUEUED slots, oldest first (R123). -/
  orderQueue : List SlotId
  /-- The tags not yet announced, oldest first (R123). -/
  cancelList : List Nat
  /-- The session of the most recent grant (R126). -/
  lastGranted : SessionId
  /-- The six client records (R162). -/
  clients : Vector Client 6
  /-- The base address of the playout link (R157). -/
  baseAddress : Nat
  /-- The control frame in progress (R172). -/
  controlFrame : Option ControlFrame
  /-- The response holding (R172). -/
  response : Option Response
  /-- The session members of the notice set, one bit a kind as in 11.6 (R179). -/
  sessionNotices : Vector (BitVec 7) 6
  /-- The part members of the notice set (R179). -/
  partNotices : BitVec 5
  /-- The notice enable mask: bits 0–6 the session kinds, bits 7–11 the part kinds (R181). -/
  noticeEnable : BitVec 12
  /-- ATTN: true while ATTN_N is driven low (R182). -/
  attn : Bool
  /-- RESET_N is low (R184). -/
  inReset : Bool
  /-- The bytes of the fetch record being shifted in (R117, log 11). -/
  fetchRecord : List Byte
  /-- MODEL (log 10): the answer being shifted out on FMISO (R117). -/
  fetchAnswer : Option FetchAnswer
  /-- The playout write transfer in progress (R158, R183, log 11). -/
  playoutWrite : Option (PlayoutAddress × List Byte)
  /-- MODEL (log 10): the bytes the latest acknowledged read transfer returned (R158). -/
  playoutOut : List Byte
  /-- The millisecond timebase (00_scope.md, Conventions; log 5). -/
  now : Nat
  /-- MODEL (log 2, 3): the counter the free values of Config are applied to. -/
  openChoices : Nat
  /-- MODEL: the commands that are waiting, first in, first out. -/
  pending : List Instr
  deriving DecidableEq, Repr

/-- The base address the straps select (R157). -/
def strapBase (straps : BitVec 3) : Nat := 32 + 8 * straps.toNat

/-- Every block at its power-on values, the straps sampled (R184 and the tables of R13, R31, R50, R75, R97, R140, R162). -/
def State.powerOn (straps : BitVec 3) : State where
  params := LinkParams.powerOn
  meter := Meter.initial LinkParams.powerOn
  usable := 1703
  parkingInForce := false
  congested := false
  ladders := Vector.replicate 8 Ladder.empty
  stagingA := []
  stagingB := []
  sessions := Vector.replicate 6 Session.initial
  poolFree := 48
  slots := Vector.replicate 12 Slot.free
  tagCounter := 1
  orderQueue := []
  cancelList := []
  lastGranted := 5
  clients := Vector.replicate 6 Client.initial
  baseAddress := strapBase straps
  controlFrame := none
  response := none
  sessionNotices := Vector.replicate 6 0
  partNotices := 0
  noticeEnable := BitVec.allOnes 12
  attn := false
  inReset := false
  fetchRecord := []
  fetchAnswer := none
  playoutWrite := none
  playoutOut := []
  now := 0
  openChoices := 0
  pending := []

/-- The part right after power-on reset, no command waiting. DESIGN CHOICE (log 6): with the straps at 000. -/
def State.reset : State := State.powerOn 0

end Sys2Proof.Machine
end

