-- ==== Sys2Proof/Machine/Ops.lean ====
section
/-! DEFINITION. The named operations over the state: staging memory, records by number, slots and tags, ledgers and their
figures, withdrawal, cancellation and release. -/

namespace Sys2Proof.Machine

/-! ### Arithmetic words of the manual (00_scope.md, Conventions) -/

/-- A value outside its range is replaced by the nearer bound. -/
def clamp (lo hi x : Nat) : Nat := max lo (min hi x)

/-- A counter that stays at its maximum once reached. -/
def saturate (maximum x : Nat) : Nat := min maximum x

/-- The greatest 16-bit count. -/
def max16 : Nat := 65535

/-- The greatest 32-bit count. -/
def max32 : Nat := 4294967295

/-- A 16-bit counter counts one event (R73). -/
def count16 (n : Nat) : Nat := saturate max16 (n + 1)

/-! ### Staging buffers (R34, R35) -/

/-- The byte at an offset; an unlisted offset reads 0 (R50). -/
def Memory.read : Memory → Nat → Byte
  | [], _ => 0
  | (b, w) :: m, a => if a = b then w else Memory.read m a

/-- Puts a byte at an offset, keeping the offsets rising and no byte 0 listed. -/
def Memory.write : Memory → Nat → Byte → Memory
  | [], a, v => if v = 0 then [] else [(a, v)]
  | (b, w) :: m, a, v =>
    if a < b then (if v = 0 then (b, w) :: m else (a, v) :: (b, w) :: m)
    else if a = b then (if v = 0 then m else (a, v) :: m)
    else (b, w) :: Memory.write m a v

/-- The canonical form: offsets rising strictly from `lo` and below 128, no byte 0. -/
def Memory.wfFrom : Nat → Memory → Bool
  | _, [] => true
  | lo, (a, v) :: m => decide (lo ≤ a) && decide (a < 128) && decide (v ≠ 0) && Memory.wfFrom (a + 1) m

/-- The canonical form of a staging buffer. -/
def Memory.wf (m : Memory) : Bool := Memory.wfFrom 0 m

/-- Writes bytes in order from an offset, going on at offset 0 after offset 127 (R35). -/
def Memory.load (m : Memory) : Nat → List Byte → Memory
  | _, [] => m
  | offset, v :: vs => Memory.load (Memory.write m offset v) ((offset + 1) % 128) vs

/-- `size` bytes from an offset upward (R34, R49). -/
def Memory.slice (m : Memory) (offset size : Nat) : List Byte :=
  (List.range size).map fun k => Memory.read m (offset + k)

/-! ### Records by number -/

/-- The six sessions in order; also the six clients. -/
def allSessions : List SessionId := [0, 1, 2, 3, 4, 5]

/-- The twelve fetch slots, lowest index first. -/
def allSlots : List SlotId := [0, 1, 2, 3, 4, 5, 6, 7, 8, 9, 10, 11]

/-- A session record. -/
def State.session (s : State) (i : SessionId) : Session := s.sessions[i.val]

/-- Puts a session record. -/
def State.setSession (s : State) (i : SessionId) (x : Session) : State :=
  { s with sessions := s.sessions.set i.val x }

/-- Changes a session record. -/
def State.modifySession (s : State) (i : SessionId) (f : Session → Session) : State :=
  s.setSession i (f (s.session i))

/-- The held flag is cleared (R61, R67, R57, R69). -/
def Session.unheld (x : Session) : Session := { x with held := false }

/-- A fetch slot. -/
def State.slot (s : State) (j : SlotId) : Slot := s.slots[j.val]

/-- Puts a fetch slot. -/
def State.setSlot (s : State) (j : SlotId) (x : Slot) : State :=
  { s with slots := s.slots.set j.val x }

/-- A client record. -/
def State.client (s : State) (c : ClientId) : Client := s.clients[c.val]

/-- Puts a client record. -/
def State.setClient (s : State) (c : ClientId) (x : Client) : State :=
  { s with clients := s.clients.set c.val x }

/-- The ladder in a ladder slot. -/
def State.ladder (s : State) (l : LadderId) : Ladder := s.ladders[l.val]

/-- Replaces the ladder in a ladder slot. -/
def State.setLadder (s : State) (l : LadderId) (x : Ladder) : State :=
  { s with ladders := s.ladders.set l.val x }

/-- The ladder a session is bound to. -/
def State.ladderOf (s : State) (i : SessionId) : Ladder := s.ladder (s.session i).config.ladderSlot

/-- The started states (R51). -/
def SessionState.started : SessionState → Bool
  | .priming => true
  | .running => true
  | .starved => true
  | .closed => false
  | .opened => false
  | .draining => false
  | .faulted => false

/-- The states in which no WAITING entry is kept (R66). -/
def SessionState.winding : SessionState → Bool
  | .draining => true
  | .faulted => true
  | .closed => false
  | .opened => false
  | .priming => false
  | .running => false
  | .starved => false

/-- The class is BACKGROUND (R52). -/
def Session.isBackground (x : Session) : Bool := x.config.sessionClass == .background

/-- The most QUEUED and ACTIVE entries a session may have (R52, field 5). -/
def Pipeline.depth : Pipeline → Nat
  | .conservative => 1
  | .pipelined => 2

/-- The client bound to a session, if any. -/
def State.clientOf (s : State) (i : SessionId) : Option ClientId :=
  allSessions.find? fun c => (s.client c).binding == some i

/-- The client a playout address belongs to (R157); none where the part does not acknowledge it (R157, R184). -/
def State.addressed (s : State) (address : PlayoutAddress) : Option ClientId :=
  if s.inReset then none
  else allSessions.find? fun c => s.baseAddress + c.val == address.toNat

/-! ### Ladders (R33) -/

/-- The bitrate of a rung; 0 past the last rung (log 16). -/
def Ladder.bitrate (l : Ladder) (r : Nat) : Nat := ((l.rungs[r]?).map (·.bitrate)).getD 0

/-- The bitrate of rung 0, a session's floor (R23). -/
def Ladder.floor (l : Ladder) : Nat := l.bitrate 0

/-- The highest enabled rung that meets a condition on its index and bitrate (R98). -/
def Ladder.highest (l : Ladder) (p : Nat → Nat → Bool) : Option Nat :=
  ((l.rungs.zipIdx.filter fun (r, k) => r.enabled && p k r.bitrate).getLast?).map (·.2)

/-- The lowest enabled rung that meets a condition on its index and bitrate (R104, R108). -/
def Ladder.lowest (l : Ladder) (p : Nat → Nat → Bool) : Option Nat :=
  ((l.rungs.zipIdx.filter fun (r, k) => r.enabled && p k r.bitrate).head?).map (·.2)

/-- The highest enabled rung with bitrate at most `x`, else rung 0 (R43, R100). -/
def Ladder.highestWithin (l : Ladder) (x : Nat) : Nat := (l.highest fun _ b => decide (b ≤ x)).getD 0

/-- The highest enabled rung at or below an index, else rung 0 (R98, R100, R101). -/
def Ladder.highestUpTo (l : Ladder) (r : Nat) : Nat := (l.highest fun k _ => decide (k ≤ r)).getD 0

/-- A session names the slot and is not CLOSED (R43, R49). -/
def State.boundTo (s : State) (l : LadderId) (i : SessionId) : Bool :=
  (s.session i).config.ladderSlot == l && (s.session i).state != .closed

/-! ### Entries and the figures of a ledger -/

/-- The reported duration when present, else the nominal duration (R91). -/
def Entry.duration (e : Entry) : Nat := e.reported.getD e.issue.nominal

/-- What an entry counts for: `remaining_ms` while PLAYING, else its effective duration (R92, R93). -/
def Entry.playtime (e : Entry) : Nat :=
  match e.state with
  | .playing => e.remaining.getD 0
  | _ => e.duration

/-- QUEUED or ACTIVE (R88). -/
def Entry.inFlight (e : Entry) : Bool := e.state == .queued || e.state == .active

/-- The READY entries before any entry of another state. -/
def readyPrefix (ledger : List Entry) : List Entry := ledger.takeWhile (·.state == .ready)

/-- The ready run (R88): the PLAYING head, if there is one, and the READY entries that follow unbroken. -/
def readyRun : List Entry → List Entry
  | [] => []
  | e :: es => if e.state == .playing then e :: readyPrefix es else readyPrefix (e :: es)

/-- The first entry after the ready run (R88). -/
def blockingEntry (ledger : List Entry) : Option Entry := ledger[(readyRun ledger).length]?

/-- buffered_ms (R92). -/
def bufferedMs (ledger : List Entry) : Nat := ((readyRun ledger).map Entry.playtime).sum

/-- committed_ms (R93). -/
def committedMs (ledger : List Entry) : Nat := (ledger.map Entry.playtime).sum

/-- The number of QUEUED and ACTIVE entries (R88). -/
def inFlightCount (ledger : List Entry) : Nat := (ledger.filter Entry.inFlight).length

/-- The bands of buffered_ms (R52). -/
inductive Zone where
  | panic
  | lean
  | steady
  deriving DecidableEq, Repr

/-- The zone of a session; it follows buffered_ms at every read (R52, R94). -/
def Session.zone (x : Session) : Zone :=
  let b := bufferedMs x.ledger
  if b < x.config.panicLevel then .panic
  else if b < x.config.steadyLevel then .lean
  else .steady

/-- The entry of a segment number in a ledger. -/
def findEntry (ledger : List Entry) (segment : Nat) : Option Entry := ledger.find? (·.segment == segment)

/-- The entry a slot names. -/
def State.entry? (s : State) (r : EntryRef) : Option Entry := findEntry (s.session r.session).ledger r.segment

/-- Changes the entry of a segment number where it stands in the ledger. -/
def updateLedger (segment : Nat) (f : Entry → Entry) (ledger : List Entry) : List Entry :=
  ledger.map fun e => if e.segment = segment then f e else e

/-- Changes the entry a slot names where it stands. -/
def State.updateEntry (s : State) (r : EntryRef) (f : Entry → Entry) : State :=
  s.modifySession r.session fun x => { x with ledger := updateLedger r.segment f x.ledger }

/-- An ACTIVE entry taken off its fetch (R83): WAITING, no tag, due from `due`. -/
def Entry.toWaiting (due : Nat) (e : Entry) : Entry :=
  { e with state := .waiting, tag := none, notBefore := some due }

/-- The reported duration a DONE carries: 0 leaves it absent, above 60000 is 60000 (R81). -/
def reportedOf (duration : Nat) : Option Nat := if duration = 0 then none else some (min duration 60000)

/-- An entry made READY by a DONE (R81, R82): the values of the DONE, and SHORT where the result was TRUNCATED. -/
def Entry.toReady (total : Nat) (token : BitVec 32) (duration : Nat) (truncated : Bool) (e : Entry) : Entry :=
  { e with
    state := .ready, tag := none, notBefore := none, total := some total, token := some token
    reported := reportedOf duration, short := e.short || truncated }

/-! ### Slots and tags (R119, R120) -/

/-- The tag a slot holds. -/
def Slot.tag? : Slot → Option Nat
  | .free => none
  | .queued t _ => some t
  | .taken t _ _ _ => some t
  | .cancelling t _ _ _ => some t

/-- TAKEN or CANCELLING: what the occupancy condition counts (R1). -/
def Slot.occupying : Slot → Bool
  | .free => false
  | .queued _ _ => false
  | .taken _ _ _ _ => true
  | .cancelling _ _ _ _ => true

/-- The slot whose live tag is `t` (R118). -/
def State.slotOfTag (s : State) (t : Nat) : Option SlotId := allSlots.find? fun j => (s.slot j).tag? == some t

/-- The QUEUED slot of an entry. -/
def State.queuedSlotOf (s : State) (r : EntryRef) : Option SlotId :=
  allSlots.find? fun j =>
    match s.slot j with
    | .queued _ r' => r' == r
    | _ => false

/-- The TAKEN slot of an entry. -/
def State.takenSlotOf (s : State) (r : EntryRef) : Option SlotId :=
  allSlots.find? fun j =>
    match s.slot j with
    | .taken _ r' _ _ => r' == r
    | _ => false

/-- The FREE slot of lowest index (R125). -/
def State.freeSlot (s : State) : Option SlotId := allSlots.find? fun j => s.slot j == .free

/-- The number of slots that meet a condition (R141). -/
def State.countSlots (s : State) (p : Slot → Bool) : Nat := (allSlots.filter fun j => p (s.slot j)).length

/-- The tag after a tag, 1 after 255 (R120). -/
def tagAfter (t : Nat) : Nat := if t < 255 then t + 1 else 1

/-- The first tag, counting upward from `t`, that no slot holds; the fuel bounds the search (R120). -/
def State.freshTag (s : State) : Nat → Nat → Nat
  | 0, t => t
  | fuel + 1, t => if (s.slotOfTag t).isNone then t else State.freshTag s fuel (tagAfter t)

/-- The occupancy condition (R1). -/
def State.occupied (s : State) : Bool := (allSlots.any fun j => (s.slot j).occupying) && !s.meter.paused

/-- Where an event has ended the occupancy condition that held before it, a window that had reached its length without expiring
stops one step short of it (R11 for PAUSE; log 12 for DONE). -/
def State.rereadOccupancy (s before : State) : State :=
  if before.occupied && !s.occupied then
    { s with meter := { s.meter with windowElapsed := min s.meter.windowElapsed (s.meter.windowLength - 1) } }
  else s

/-- A slot becomes FREE; its tag is released (R120). -/
def State.freeSlotAt (s : State) (j : SlotId) : State := s.setSlot j .free

/-- Withdrawal of an entry's QUEUED order (R121): the slot leaves the queue from wherever it stands and becomes FREE. -/
def State.withdraw (s : State) (r : EntryRef) : State :=
  match s.queuedSlotOf r with
  | some j => { s.freeSlotAt j with orderQueue := s.orderQueue.filter (· != j) }
  | none => s

/-- The copies a slot keeps of a fetch given up (R122). All 0 where the slot's entry is in no ledger (log 16). -/
def State.keptCopies (s : State) (r : EntryRef) : Issue :=
  ((s.entry? r).map (·.issue)).getD ⟨0, 0, 0, 0, 0, 0, 0⟩

/-- Cancellation of a TAKEN slot (R122), the back-reference kept where the entry stays in its ledger. -/
def State.cancelSlot (s : State) (j : SlotId) (keepBack : Bool) : State :=
  match s.slot j with
  | .taken t r _ _ =>
    { s.setSlot j (.cancelling t (if keepBack then some r else none) (s.keptCopies r) false) with
      cancelList := s.cancelList ++ [t] }
  | _ => s

/-- Cancellation of the fetch of an entry that leaves its ledger (R122, R86). -/
def State.cancelFetch (s : State) (r : EntryRef) : State :=
  match s.takenSlotOf r with
  | some j => s.cancelSlot j false
  | none => s

/-- A back-reference that names the entry is cleared. -/
def Slot.clearBack (r : EntryRef) : Slot → Slot
  | .cancelling t b k o => .cancelling t (if b = some r then none else b) k o
  | x => x

/-- Changes every slot. -/
def State.mapSlots (s : State) (f : Slot → Slot) : State :=
  allSlots.foldl (fun s j => s.setSlot j (f (s.slot j))) s

/-- Every back-reference that names the entry is cleared (R86). -/
def State.clearBacks (s : State) (r : EntryRef) : State := s.mapSlots (Slot.clearBack r)

/-! ### Release to the pool (R86) -/

/-- The order in which one event cancels the fetches of the entries it removes: free where there are two or more (log 3). -/
def cancelOrder (choice : Nat) (es : List Entry) : List Entry :=
  if es.length ≤ 1 then es
  else if Config.cancelTailFirst choice then es.reverse else es

/-- The counter of open choices moves on where such an order was open (log 3). -/
def State.choiceMade (s : State) (es : List Entry) : State :=
  if es.length ≤ 1 then s else { s with openChoices := s.openChoices + 1 }

/-- The entries of a list whose fetch is under way: a slot is TAKEN for them (R76). -/
def State.fetched (s : State) (i : SessionId) (es : List Entry) : List Entry :=
  es.filter fun e => (s.takenSlotOf ⟨i, e.segment⟩).isSome

/-- Disposes of the fetches of entries about to leave a session's ledger: QUEUED orders withdrawn, fetches under way cancelled, back-references
cleared (R86). -/
def State.disposeFetches (s : State) (i : SessionId) (gone : List Entry) : State :=
  let s₁ := (gone.filter (·.state == .queued)).foldl (fun s e => s.withdraw ⟨i, e.segment⟩) s
  let s₂ := (cancelOrder s.openChoices (s.fetched i gone)).foldl (fun s e => s.cancelFetch ⟨i, e.segment⟩) s₁
  gone.foldl (fun s e => s.clearBacks ⟨i, e.segment⟩) (s₂.choiceMade (s.fetched i gone))

/-- Releases the entries of a session that meet a condition to the pool, the rest keeping their order (R86, R89). -/
def State.release (s : State) (i : SessionId) (p : Entry → Bool) : State :=
  let gone := (s.session i).ledger.filter p
  let kept := (s.session i).ledger.filter fun e => !p e
  let s₁ := s.disposeFetches i gone
  { s₁ with poolFree := s₁.poolFree + gone.length }.modifySession i fun x => { x with ledger := kept }

/-- Flush (R68): the ledger is emptied in one step, taint cleared, gate open. -/
def State.flush (s : State) (i : SessionId) : State :=
  (s.release i fun _ => true).modifySession i fun x => { x with tainted := false, gateOpen := true }

end Sys2Proof.Machine
end

