-- ==== Sys2Proof/Machine/Flags.lean ====
section
/-! DEFINITION. Every flag the part computes: the notice set and ATTN (R179, R182), the tainted flag (R95), the fetch gate
(R72), the start and restart test (R59), what follows a change of a ledger (R94), and the removal of WAITING entries from a session that
winds down (R66). -/

namespace Sys2Proof.Machine

/-! ### Notices and ATTN -/

/-- The bit of a session kind (11.6). -/
def SessionKind.bit : SessionKind → Nat
  | .playoutReady => 0
  | .starved => 1
  | .switched => 2
  | .skipped => 3
  | .faulted => 4
  | .drained => 5
  | .tainted => 6

/-- The bit of a part kind (11.6). -/
def PartKind.bit : PartKind → Nat
  | .congestion => 0
  | .parking => 1
  | .fetchProtocol => 2
  | .clientProtocol => 3
  | .linkReset => 4

/-- The members of the notice set of one session, as flags (R180). -/
def State.noticesOf (s : State) (i : SessionId) : BitVec 7 := s.sessionNotices[i.val]

/-- (session, kind) is a member of the notice set. -/
def State.hasNotice (s : State) (i : SessionId) (k : SessionKind) : Bool := (s.noticesOf i).getLsbD k.bit

/-- (part, kind) is a member of the notice set. -/
def State.hasPartNotice (s : State) (k : PartKind) : Bool := s.partNotices.getLsbD k.bit

/-- Bits 0–6 of the enable mask (R181). -/
def State.sessionEnable (s : State) : BitVec 7 := s.noticeEnable.setWidth 7

/-- Bits 7–11 of the enable mask (R181). -/
def State.partEnable (s : State) : BitVec 5 := s.noticeEnable.extractLsb' 7 5

/-- The notice set holds a member of an enabled kind (R182). -/
def State.enabledMember (s : State) : Bool :=
  (allSessions.any fun i => (s.noticesOf i &&& s.sessionEnable) != 0) || (s.partNotices &&& s.partEnable) != 0

/-- ATTN judged afresh (R182). -/
def State.judgeAttn (s : State) : State := { s with attn := s.enabledMember }

/-- A notice of session scope joins the set (R179). -/
def State.notify (s : State) (i : SessionId) (k : SessionKind) : State :=
  { s with sessionNotices := s.sessionNotices.set i.val (s.noticesOf i ||| BitVec.twoPow 7 k.bit) }.judgeAttn

/-- A notice of part scope joins the set (R179). -/
def State.notifyPart (s : State) (k : PartKind) : State :=
  { s with partNotices := s.partNotices ||| BitVec.twoPow 5 k.bit }.judgeAttn

/-! ### What follows a change of a ledger -/

/-- An entry of the ledger carries SHORT (R95). -/
def anyShort (ledger : List Entry) : Bool := ledger.any (·.short)

/-- The tainted flag follows the ledger; TAINTED is set when it rises (R95). -/
def State.retaint (s : State) (i : SessionId) : State :=
  let t := anyShort (s.session i).ledger
  let s₁ := s.modifySession i fun x => { x with tainted := t }
  if t && !(s.session i).tainted then s₁.notify i .tainted else s₁

/-- The fetch gate evaluated at the levels held (R72). -/
def Session.evaluateGate (x : Session) : Session :=
  let c := committedMs x.ledger
  if x.config.fullLevel ≤ c then { x with gateOpen := false }
  else if c ≤ x.config.fullLevel - x.config.hysteresis then { x with gateOpen := true }
  else x

/-- A session enters RUNNING, and PLAYOUT-READY is set (R59). -/
def State.enterRunning (s : State) (i : SessionId) : State :=
  (s.modifySession i fun x => { x with state := .running }).notify i .playoutReady

/-- The session passes the start or restart test as it stands (R59). -/
def Session.passesStartTest (x : Session) : Bool :=
  match x.state with
  | .priming => decide (x.config.startLevel ≤ bufferedMs x.ledger)
  | .starved => decide (x.config.restartLevel ≤ bufferedMs x.ledger)
  | .closed => false
  | .opened => false
  | .running => false
  | .draining => false
  | .faulted => false

/-- The start or restart test, made once (R59). -/
def State.startTest (s : State) (i : SessionId) : State :=
  if (s.session i).passesStartTest then s.enterRunning i else s

/-- The gate is evaluated where committed_ms has changed from what the ledger `before` gave (R94). -/
def State.regate (s : State) (i : SessionId) (before : List Entry) : State :=
  if committedMs (s.session i).ledger = committedMs before then s else s.modifySession i Session.evaluateGate

/-- The start or restart test is made where buffered_ms has changed from what the ledger `before` gave (R94). -/
def State.retest (s : State) (i : SessionId) (before : List Entry) : State :=
  if bufferedMs (s.session i).ledger = bufferedMs before then s else s.startTest i

/-- What follows within the event that changed a session's ledger from `before` (R94, R95; log 17). -/
def State.settle (s : State) (i : SessionId) (before : List Entry) : State :=
  ((s.retaint i).regate i before).retest i before

/-! ### Removal of WAITING entries (R66) -/

/-- The skips counter rises by `n`, and SKIPPED is set, for `n` entries removed (R66, R151). -/
def State.countSkips (s : State) (i : SessionId) (n : Nat) : State :=
  if n = 0 then s
  else
    (s.modifySession i fun x => { x with stats := { x.stats with skips := saturate max16 (x.stats.skips + n) } }).notify i
      .skipped

/-- The entry is WAITING. -/
def Entry.isWaiting (e : Entry) : Bool := e.state == .waiting

/-- In DRAINING and FAULTED every WAITING entry is removed, each counted as a skip (R66). -/
def State.sweep (s : State) (i : SessionId) : State :=
  if (s.session i).state.winding then
    (s.release i Entry.isWaiting).countSkips i ((s.session i).ledger.filter Entry.isWaiting).length
  else s

end Sys2Proof.Machine
end

