-- ==== Sys2Proof/Machine/Budget.lean ====
section
/-! DEFINITION. The Budget Allocator's recompute (R20–R30) and the moves into and out of the started states that cause it (R22,
R26, R28). -/

namespace Sys2Proof.Machine

/-- The usable budget from the capacity estimate (R20). -/
def usableBudget (capacity safety headroom : Nat) : Nat := capacity * safety / 256 - headroom

/-- The session is in a started state (R51). -/
def State.isStarted (s : State) (i : SessionId) : Bool := (s.session i).state.started

/-- The share-holding sessions: started and not parked (R23). -/
def State.holdsShare (s : State) (i : SessionId) : Bool := s.isStarted i && !(s.session i).parked

/-- A session's floor, the bitrate of rung 0 of its ladder (R23). -/
def State.floorOf (s : State) (i : SessionId) : Nat := (s.ladderOf i).floor

/-- A sum over the sessions that meet a condition (R23). -/
def sumWhere (p : SessionId → Bool) (f : SessionId → Nat) : Nat := ((allSessions.filter p).map f).sum

/-- ΣF (R23). -/
def State.floorSum (s : State) : Nat := sumWhere s.holdsShare s.floorOf

/-- Σw (R23). -/
def State.weightSum (s : State) : Nat := sumWhere s.holdsShare fun i => (s.session i).config.weight

/-- P_all: the floors of all started sessions, parked or not (R23). -/
def State.floorSumAll (s : State) : Nat := sumWhere s.isStarted s.floorOf

/-- ΣF_viewed (R23). -/
def State.floorSumViewed (s : State) : Nat :=
  sumWhere (fun i => s.holdsShare i && !(s.session i).isBackground) s.floorOf

/-- Changes every session record by a function of its number. -/
def State.mapSessions (s : State) (f : SessionId → Session → Session) : State :=
  allSessions.foldl (fun s i => s.modifySession i (f i)) s

/-- The parking action is due (R25). -/
def State.mustPark (s : State) : Bool :=
  !s.parkingInForce && (allSessions.any fun i => s.holdsShare i && (s.session i).isBackground)
    && decide (s.usable < s.floorSumAll)

/-- The unparking action is due (R27). -/
def State.mayUnpark (s : State) : Bool := s.parkingInForce && decide (s.floorSumAll ≤ s.usable * 7 / 8)

/-- The parking action (R25). -/
def State.park (s : State) : State :=
  { s.mapSessions fun _ x => if x.state.started && x.isBackground then { x with parked := true } else x with
    parkingInForce := true }.notifyPart .parking

/-- The unparking action (R27). -/
def State.unpark (s : State) : State :=
  { s.mapSessions fun _ x => { x with parked := false } with parkingInForce := false }.notifyPart .parking

/-- Step 2 of a recompute: at most one of the two actions (R21). -/
def State.reviewParking (s : State) : State :=
  if s.mustPark then s.park else if s.mayUnpark then s.unpark else s

/-- The share of one session (R24). -/
def State.shareOf (s : State) (i : SessionId) : Nat :=
  if s.holdsShare i then
    if s.floorSum ≤ s.usable then
      s.floorOf i + (s.usable - s.floorSum) * (s.session i).config.weight / s.weightSum
    else s.floorOf i
  else 0

/-- Step 3 of a recompute (R24). -/
def State.giveShares (s : State) : State := s.mapSessions fun i x => { x with share := s.shareOf i }

/-- Step 4 of a recompute (R30). -/
def State.reviewCongestion (s : State) : State :=
  let flag := decide (s.usable < s.floorSumViewed)
  if flag = s.congested then s else { s with congested := flag }.notifyPart .congestion

/-- A recompute of the budget, taken whole (R21). -/
def State.recompute (s : State) : State :=
  { s with usable := usableBudget s.meter.capacity s.params.safety s.params.headroom }.reviewParking.giveShares.reviewCongestion

/-- A recompute where a condition holds. -/
def State.recomputeIf (s : State) (cause : Bool) : State := if cause then s.recompute else s

/-- The Link Meter presents a capacity estimate: the recompute follows where it differs from the one last presented (R8, R22). -/
def State.present (s : State) (m : Meter) : State :=
  { s with meter := m }.recomputeIf (decide (m.capacity ≠ s.meter.capacity))

/-- A session takes a state outside the started ones: parked cleared, and a recompute where it leaves them (R22, R28). -/
def State.leaveFor (s : State) (i : SessionId) (target : SessionState) : State :=
  (s.modifySession i fun x => { x with state := target, parked := false }).recomputeIf (s.isStarted i)

/-- A session takes a started state: from outside them a BACKGROUND session is parked while parking is in force, and a recompute follows
(R22, R26); within them it stays as parked as it was (R28). -/
def State.enterStarted (s : State) (i : SessionId) (target : SessionState) : State :=
  if s.isStarted i then s.modifySession i fun x => { x with state := target }
  else
    (s.modifySession i fun x => { x with state := target, parked := x.isBackground && s.parkingInForce }).recompute

end Sys2Proof.Machine
end

