-- ==== Sys2Proof/Machine/Operands.lean ====
section
/-! DEFINITION. The operands of the requests: the fields of each payload at the places chapter 11 gives them, their ranges, and what a
value of an enumerated field names. -/

namespace Sys2Proof.Machine

/-- One byte of a payload as a number. -/
def byteAt (payload : List Byte) (offset : Nat) : Nat := (payload.getD offset 0).toNat

/-- A session number or a client id in range (R53, R160). -/
def sessionId? (n : Nat) : Option SessionId := if h : n < 6 then some ⟨n, h⟩ else none

/-- A ladder slot in range (R37, R57). -/
def ladderId? (n : Nat) : Option LadderId := if h : n < 8 then some ⟨n, h⟩ else none

/-! ### SET-LINK (11.2) -/

/-- The eight values a SET-LINK carries. -/
def linkParamsCarried (p : List Byte) : LinkParams where
  windowLength := beField p 0 2
  thinThreshold := beField p 2 2
  initialEstimate := beField p 4 4
  safety := beField p 8 2
  headroom := beField p 10 4
  stallLimit := beField p 14 2
  retryInterval := beField p 16 2
  holdTimeout := beField p 18 2

/-- The eight values clamped to their ranges (R15, R19, R134, R142). -/
def LinkParams.clamped (p : LinkParams) : LinkParams where
  windowLength := clamp 20 1000 p.windowLength
  thinThreshold := clamp 0 65535 p.thinThreshold
  initialEstimate := clamp 64 1000000 p.initialEstimate
  safety := clamp 128 256 p.safety
  headroom := clamp 0 100000 p.headroom
  stallLimit := clamp 200 10000 p.stallLimit
  retryInterval := clamp 50 5000 p.retryInterval
  holdTimeout := clamp 500 60000 p.holdTimeout

/-- The values in the order of the payload. -/
def LinkParams.values (p : LinkParams) : List Nat :=
  [p.windowLength, p.thinThreshold, p.initialEstimate, p.safety, p.headroom, p.stallLimit, p.retryInterval, p.holdTimeout]

/-- How many of some values differ from others, place by place (R176). -/
def countChanged (xs ys : List Nat) : Nat := ((xs.zip ys).filter fun (x, y) => x != y).length

/-- ACCEPTED: CLAMPED with the number of fields clamped, NORMAL when there is none (R15, R53). -/
def acceptedStatus (clamped : Nat) : Status := if clamped = 0 then .normal else .clamped clamped

/-! ### Rung records (11.5, R34) -/

/-- The length of a rung record. -/
def rungRecordSize : Nat := 16

/-- The fields of a rung record; the six bytes that hold no field are not read (R34, R186). -/
def rungOfRecord (record : List Byte) : Rung where
  bitrate := beField record 0 4
  lines := beField record 4 2
  profile := record.getD 6 0
  locator := BitVec.ofNat 16 (beField record 7 2)
  enabled := record.getD 9 0 != 0

/-- The first `count` rung records of a staging buffer (R34, R37). -/
def rungsOfBuffer (m : Memory) (count : Nat) : List Rung :=
  (List.range count).map fun i => rungOfRecord (Memory.slice m (rungRecordSize * i) rungRecordSize)

/-- A rung is faulty at its index, above the rung before it (R37, step 3). -/
def rungFaulty (below : Option Rung) (r : Rung) : Bool :=
  decide (r.bitrate < 32) || decide (100000 < r.bitrate) || decide (4320 < r.lines)
    || (match below with
      | none => !r.enabled
      | some b => decide (r.bitrate ≤ b.bitrate))

/-- The index of the first faulty rung, counted on from `i` (R37). -/
def firstFaulty : Nat → Option Rung → List Rung → Option Nat
  | _, _, [] => none
  | i, below, r :: rs => if rungFaulty below r then some i else firstFaulty (i + 1) (some r) rs

/-- A rung with the fields a PATCH mask names replaced (R39; mask bits 0–4 of byte 2). -/
def patchRung (p : List Byte) (r : Rung) : Rung :=
  let mask := byteAt p 2
  { bitrate := if mask.testBit 0 then beField p 3 4 else r.bitrate
    lines := if mask.testBit 1 then beField p 7 2 else r.lines
    profile := if mask.testBit 2 then p.getD 9 0 else r.profile
    locator := if mask.testBit 3 then BitVec.ofNat 16 (beField p 10 2) else r.locator
    enabled := if mask.testBit 4 then p.getD 12 0 != 0 else r.enabled }

/-! ### The configuration record (R52, 11.5) -/

/-- Offset and size of the value of a field in the configuration record; field 19's presence byte stands at 41. -/
def configPlace : Nat → Nat × Nat
  | 1 => (0, 1)
  | 2 => (1, 1)
  | 3 => (2, 1)
  | 4 => (3, 1)
  | 5 => (4, 1)
  | 6 => (5, 1)
  | 7 => (6, 1)
  | 8 => (7, 4)
  | 9 => (11, 4)
  | 10 => (15, 4)
  | 11 => (19, 4)
  | 12 => (23, 4)
  | 13 => (27, 4)
  | 14 => (31, 1)
  | 15 => (32, 1)
  | 16 => (33, 2)
  | 17 => (35, 2)
  | 18 => (37, 4)
  | 19 => (42, 4)
  | _ => (0, 0)

/-- The range a field is clamped to (R52); the enumerated fields and the 32-bit segment numbers are not clamped. -/
def configRange : Nat → Nat × Nat
  | 3 => (1, 15)
  | 4 => (2, 16)
  | 7 => (0, 7)
  | 8 => (0, 60000)
  | 9 => (0, 60000)
  | 10 => (0, 60000)
  | 11 => (0, 60000)
  | 12 => (0, 60000)
  | 13 => (500, 30000)
  | 14 => (0, 7)
  | 15 => (0, 15)
  | 16 => (256, 512)
  | 17 => (0, 10000)
  | _ => (0, max32)

/-- A CONFIGURE frame's payload names a field (11.2: mask bit n − 1 for field n). -/
def configNames (p : List Byte) (field : Nat) : Bool := (beField p 1 3).testBit (field - 1)

/-- The value a CONFIGURE carries for a field. -/
def configCarried (p : List Byte) (field : Nat) : Nat :=
  beField p (4 + (configPlace field).1) (configPlace field).2

/-- That value, clamped (R53, step 4). -/
def configValue (p : List Byte) (field : Nat) : Nat :=
  clamp (configRange field).1 (configRange field).2 (configCarried p field)

/-- The class a byte names (11.5). -/
def classOf : Nat → Option SessionClass
  | 0 => some .viewed
  | 1 => some .background
  | _ => none

/-- The pipeline depth a byte names (11.5). -/
def pipelineOf : Nat → Option Pipeline
  | 1 => some .conservative
  | 2 => some .pipelined
  | _ => none

/-- The policy a byte names (11.5). -/
def policyOf : Nat → Option Policy
  | 0 => some .hold
  | 1 => some .descend
  | 2 => some .skip
  | 3 => some .halt
  | _ => none

/-- A field holds no value of its range (R53, step 3). -/
def enumFaulty (p : List Byte) (field : Nat) : Bool :=
  match field with
  | 1 => (ladderId? (configCarried p 1)).isNone
  | 2 => (classOf (configCarried p 2)).isNone
  | 5 => (pipelineOf (configCarried p 5)).isNone
  | 6 => (policyOf (configCarried p 6)).isNone
  | _ => false

/-- The first named enumerated field at fault (R53, step 3). -/
def enumFault (p : List Byte) : Option Nat := [1, 2, 5, 6].find? fun n => configNames p n && enumFaulty p n

/-- The fields that are clamped when named (R53, step 4). -/
def clampedFields : List Nat := [3, 4, 7, 8, 9, 10, 11, 12, 13, 14, 15, 16, 17]

/-- How many named fields clamping changes (R53, R176). -/
def configClamps (p : List Byte) : Nat :=
  (clampedFields.filter fun n => configNames p n && configValue p n != configCarried p n).length

/-- The number a stored locked field would be carried as (R54). -/
def lockedStored (c : SessionConfig) : Nat → Nat
  | 1 => c.ladderSlot.val
  | 4 => c.depthLimit
  | 5 => c.pipeline.depth
  | _ => 0

/-- The first named locked field whose value differs from the stored one (R54). -/
def lockFault (p : List Byte) (c : SessionConfig) : Option Nat :=
  [1, 4, 5].find? fun n => configNames p n && configValue p n != lockedStored c n

/-- Field 19 as carried: absent where its presence byte is 0 (R53, R186). -/
def lastCarried (p : List Byte) : Option Nat := if byteAt p 45 = 0 then none else some (configCarried p 19)

/-- The record as it would stand after the request (R53, step 6): named fields replaced by their clamped values. -/
def configAfter (p : List Byte) (c : SessionConfig) : SessionConfig :=
  let pick (n stored : Nat) : Nat := if configNames p n then configValue p n else stored
  { ladderSlot := if configNames p 1 then (ladderId? (configCarried p 1)).getD c.ladderSlot else c.ladderSlot
    sessionClass := if configNames p 2 then (classOf (configCarried p 2)).getD c.sessionClass else c.sessionClass
    weight := pick 3 c.weight
    depthLimit := pick 4 c.depthLimit
    pipeline := if configNames p 5 then (pipelineOf (configCarried p 5)).getD c.pipeline else c.pipeline
    policy := if configNames p 6 then (policyOf (configCarried p 6)).getD c.policy else c.policy
    retryLimit := pick 7 c.retryLimit
    startLevel := pick 8 c.startLevel
    restartLevel := pick 9 c.restartLevel
    panicLevel := pick 10 c.panicLevel
    steadyLevel := pick 11 c.steadyLevel
    fullLevel := pick 12 c.fullLevel
    hysteresis := pick 13 c.hysteresis
    startCap := pick 14 c.startCap
    dwellSetting := pick 15 c.dwellSetting
    upMargin := pick 16 c.upMargin
    abandonGuard := pick 17 c.abandonGuard
    firstSegment := pick 18 c.firstSegment
    lastSegment := if configNames p 19 then lastCarried p else c.lastSegment }

/-- The last segment, when present, is at least `n`. -/
def SessionConfig.lastAtLeast (c : SessionConfig) (n : Nat) : Bool :=
  match c.lastSegment with
  | some l => decide (n ≤ l)
  | none => true

/-- The field of the first ordering check that fails (R55), for a session whose next segment number counts while it is started. -/
def orderFault (c : SessionConfig) (started : Bool) (next : Nat) : Option Nat :=
  if c.steadyLevel ≤ c.panicLevel then some 10
  else if c.fullLevel ≤ c.steadyLevel then some 11
  else if c.fullLevel < c.startLevel then some 8
  else if c.fullLevel < c.restartLevel then some 9
  else if c.fullLevel ≤ c.hysteresis then some 13
  else if !c.lastAtLeast c.firstSegment then some 19
  else if started && !c.lastAtLeast next then some 19
  else none

end Sys2Proof.Machine
end

