-- ==== Sys2Proof/Machine/Layouts.lean ====
section
/-! DEFINITION. The bytes the part sends: status triples, read responses, fetch answers and playout answers (R175, R187, 11.2–11.6). -/

namespace Sys2Proof.Machine

/-- A flag as a number. -/
def flag (b : Bool) : Nat := if b then 1 else 0

/-- Flags as one byte, bit 0 first. -/
def flagByte (flags : List Bool) : Byte :=
  BitVec.ofNat 8 ((flags.zipIdx.map fun (b, k) => flag b * 2 ^ k).sum)

/-- A one-byte field. -/
def byteOf (n : Nat) : List Byte := [BitVec.ofNat 8 n]

/-- A one-byte index, 0xFF where it is absent (R187). -/
def indexByte (n : Option Nat) : List Byte := byteOf (n.getD 0xFF)

/-! ### Enumerated values (11.6) -/

/-- Session states; also the detail of WRONG-STATE. -/
def SessionState.code : SessionState → Nat
  | .closed => 0
  | .opened => 1
  | .priming => 2
  | .running => 3
  | .starved => 4
  | .draining => 5
  | .faulted => 6

/-- Entry states. -/
def EntryState.code : EntryState → Nat
  | .waiting => 0
  | .queued => 1
  | .active => 2
  | .ready => 3
  | .playing => 4

/-- Zones. -/
def Zone.code : Zone → Nat
  | .panic => 0
  | .lean => 1
  | .steady => 2

/-- Reservation kinds (READ-SESSION). -/
def Reservation.kindCode : Reservation → Nat
  | .unreserved => 0
  | .pin _ => 1
  | .cap _ => 2

/-- The reserved rung, 0 while there is none (READ-SESSION). -/
def Reservation.rungOrZero : Reservation → Nat
  | .unreserved => 0
  | .pin r => r
  | .cap r => r

/-- Classes (11.5). -/
def SessionClass.code : SessionClass → Nat
  | .viewed => 0
  | .background => 1

/-- Policies (11.5). -/
def Policy.code : Policy → Nat
  | .hold => 0
  | .descend => 1
  | .skip => 2
  | .halt => 3

/-- The class of a status. -/
def Status.classCode : Status → Nat
  | .normal => 0
  | .clamped _ => 0
  | .unknownRequest => 1
  | .length _ => 1
  | .index _ => 2
  | .ordering _ => 2
  | .ladder _ => 2
  | .wrongState _ => 3
  | .locked _ => 3
  | .ladderEmpty => 3
  | .reserved => 3
  | .clientBound _ => 3
  | .sessionBound _ => 3

/-- The code of a status within its class. -/
def Status.code : Status → Nat
  | .normal => 0
  | .clamped _ => 1
  | .unknownRequest => 0
  | .length _ => 1
  | .index _ => 0
  | .ordering _ => 1
  | .ladder _ => 2
  | .wrongState _ => 0
  | .locked _ => 1
  | .ladderEmpty => 2
  | .reserved => 3
  | .clientBound _ => 4
  | .sessionBound _ => 5

/-- The detail of a status (R175). -/
def Status.detail : Status → Nat
  | .normal => 0
  | .clamped n => n
  | .unknownRequest => 0
  | .length n => n
  | .index n => n
  | .ordering n => n
  | .ladder n => n
  | .wrongState s => s.code
  | .locked n => n
  | .ladderEmpty => 1
  | .reserved => 0
  | .clientBound i => i.val
  | .sessionBound c => c.val

/-- The response frame as shifted out (R172). -/
def Response.bytes (r : Response) : List Byte :=
  byteOf r.status.classCode ++ byteOf r.status.code ++ beBytes 2 r.status.detail ++ byteOf r.payload.length ++ r.payload

/-! ### Read responses (11.2) -/

/-- READ-LINK (R18, R32, R141, R142). -/
def State.linkBytes (s : State) : List Byte :=
  let m := s.meter
  let p := s.params
  beBytes 2 p.windowLength ++ beBytes 2 p.thinThreshold ++ beBytes 4 p.initialEstimate
    ++ beBytes 4 m.fast ++ beBytes 4 m.slow ++ beBytes 4 m.capacity ++ beBytes 4 (m.lastSample.getD 0)
    ++ beBytes 2 m.samples ++ beBytes 2 m.halvings ++ beBytes 2 m.thinWindows
    ++ beBytes 2 m.windowLength ++ beBytes 2 m.windowElapsed ++ beBytes 4 m.windowBytes
    ++ beBytes 2 p.safety ++ beBytes 4 p.headroom ++ beBytes 4 s.usable
    ++ beBytes 2 p.stallLimit ++ byteOf s.tagCounter
    ++ byteOf (s.countSlots fun
      | .free => true
      | _ => false)
    ++ byteOf (s.countSlots fun
      | .queued _ _ => true
      | _ => false)
    ++ byteOf (s.countSlots fun
      | .taken _ _ _ _ => true
      | _ => false)
    ++ byteOf (s.countSlots fun
      | .cancelling _ _ _ _ => true
      | _ => false)
    ++ byteOf s.cancelList.length
    ++ beBytes 2 p.retryInterval ++ beBytes 2 p.holdTimeout
    ++ [flagByte [m.paused, s.occupied, s.congested, s.parkingInForce], 0]

/-- A rung record (11.5, R34): the unused bytes 0, the enabled byte 1 or 0. -/
def Rung.record (r : Rung) : List Byte :=
  beBytes 4 r.bitrate ++ beBytes 2 r.lines ++ [r.profile] ++ beBytes 2 r.locator.toNat ++ byteOf (flag r.enabled)
    ++ List.replicate 6 0

/-- READ-LADDER of a slot (R49). -/
def State.ladderBytes (s : State) (l : LadderId) : List Byte :=
  byteOf (s.ladder l).rungs.length ++ beBytes 2 (s.ladder l).nominal
    ++ [flagByte (allSessions.map fun i => s.boundTo l i)]
    ++ ((s.ladder l).rungs.map Rung.record).flatten

/-- READ-LADDER of a staging buffer (R49). -/
def Memory.bytes (m : Memory) : List Byte := Memory.slice m 0 128

/-- The configuration record (11.5). -/
def SessionConfig.record (c : SessionConfig) : List Byte :=
  byteOf c.ladderSlot.val ++ byteOf c.sessionClass.code ++ byteOf c.weight ++ byteOf c.depthLimit ++ byteOf c.pipeline.depth
    ++ byteOf c.policy.code ++ byteOf c.retryLimit
    ++ beBytes 4 c.startLevel ++ beBytes 4 c.restartLevel ++ beBytes 4 c.panicLevel ++ beBytes 4 c.steadyLevel
    ++ beBytes 4 c.fullLevel ++ beBytes 4 c.hysteresis
    ++ byteOf c.startCap ++ byteOf c.dwellSetting ++ beBytes 2 c.upMargin ++ beBytes 2 c.abandonGuard
    ++ beBytes 4 c.firstSegment ++ byteOf (flag c.lastSegment.isSome) ++ beBytes 4 (c.lastSegment.getD 0)

/-- How many entries of a ledger stand in a state. -/
def countState (ledger : List Entry) (st : EntryState) : Nat := (ledger.filter (·.state == st)).length

/-- READ-SESSION (R74, R178). -/
def State.sessionBytes (s : State) (i : SessionId) : List Byte :=
  let x := s.session i
  byteOf x.state.code ++ [flagByte [x.held, x.parked, x.gateOpen, x.tainted]] ++ x.config.record
    ++ indexByte x.currentRung ++ byteOf x.dwell ++ byteOf x.reservation.kindCode ++ byteOf x.reservation.rungOrZero
    ++ beBytes 4 x.nextSegment ++ beBytes 4 x.share ++ beBytes 4 (bufferedMs x.ledger) ++ beBytes 4 (committedMs x.ledger)
    ++ byteOf x.zone.code ++ byteOf x.ledger.length ++ byteOf (countState x.ledger .queued)
    ++ byteOf (countState x.ledger .active) ++ indexByte ((s.clientOf i).map (·.val))
    ++ beBytes 4 x.stats.handed ++ beBytes 2 x.stats.upSwitches ++ beBytes 2 x.stats.downSwitches
    ++ beBytes 2 x.stats.starvations ++ beBytes 2 x.stats.stalls ++ beBytes 2 x.stats.abandonments
    ++ beBytes 2 x.stats.skips ++ beBytes 4 x.stats.bytesArrived
    ++ [(s.noticesOf i).setWidth 8]

/-- The age of an unavailable-since, held at 2^31 − 1 (R147). -/
def ageOf (now since : Nat) : Nat := min (now - since) 2147483647

/-- One entry of READ-LEDGER (R96). -/
def Entry.record (now : Nat) (e : Entry) : List Byte :=
  beBytes 4 e.segment ++ byteOf e.state.code ++ byteOf e.issue.rung
    ++ beBytes 4 e.issue.bitrate ++ [e.issue.profile] ++ beBytes 2 e.issue.lines ++ beBytes 2 e.issue.locator.toNat
    ++ beBytes 2 e.issue.nominal
    ++ beBytes 2 (e.reported.getD 0) ++ byteOf (e.tag.getD 0)
    ++ beBytes 4 e.issue.expected ++ beBytes 4 e.arrived ++ beBytes 4 (e.total.getD 0) ++ beBytes 4 (e.token.getD 0).toNat
    ++ byteOf e.attempts
    ++ beBytes 2 ((e.notBefore.map fun t => t - now).getD 0)
    ++ beBytes 4 ((e.unavailableSince.map (ageOf now)).getD 0)
    ++ beBytes 4 (e.upperBound.getD 0)
    ++ [flagByte [e.short, e.lowered, e.retried, e.notBefore.isSome, e.unavailableSince.isSome, e.total.isSome,
        e.remaining.isSome]]
    ++ beBytes 2 (e.remaining.getD 0)

/-- The entries a READ-LEDGER returns: at most four from a position (R96). -/
def ledgerWindow (ledger : List Entry) (position : Nat) : List Entry := (ledger.drop position).take 4

/-- READ-LEDGER (R96, 11.2). DESIGN CHOICE (log 29): the spec gives the header's tainted byte no values; it is sent as 1 while the flag is set and
as 0 while it is clear. -/
def State.ledgerBytes (s : State) (i : SessionId) (position : Nat) : List Byte :=
  let x := s.session i
  let es := ledgerWindow x.ledger position
  byteOf x.state.code ++ byteOf s.poolFree ++ byteOf x.ledger.length ++ beBytes 4 (bufferedMs x.ledger)
    ++ beBytes 4 (committedMs x.ledger) ++ byteOf x.zone.code ++ byteOf (flag x.tainted)
    ++ beBytes 4 ((x.ledger.head?.map (·.segment)).getD 0) ++ byteOf position ++ byteOf es.length
    ++ (es.map (Entry.record s.now)).flatten

/-! ### Playout answers (11.4) -/

/-- The answer code, also the kind READ-CLIENT returns. -/
def PlayoutAnswer.code : PlayoutAnswer → Nat
  | .noAnswer => 0
  | .segment _ => 1
  | .wait _ _ => 2
  | .halt _ _ => 3
  | .notBound => 4
  | .badRequest => 5
  | .ignored => 6
  | .noted _ _ => 7

/-- WAIT reasons. -/
def WaitReason.code : WaitReason → Nat
  | .priming => 1
  | .held => 2
  | .starved => 3
  | .draining => 4

/-- HALT reasons. -/
def HaltReason.code : HaltReason → Nat
  | .idle => 1
  | .ended => 2
  | .fault => 3

/-- The bytes of a held answer. -/
def PlayoutAnswer.bytes (a : PlayoutAnswer) : List Byte :=
  byteOf a.code ++
    match a with
    | .segment h =>
      byteOf h.session.val ++ beBytes 4 h.segment ++ byteOf h.rung ++ beBytes 4 h.bitrate ++ [h.profile] ++ beBytes 2 h.lines
        ++ beBytes 2 h.duration ++ beBytes 4 h.total ++ beBytes 4 h.token.toNat
        ++ [flagByte [h.switch, h.gap, h.short, h.lowered, h.retried]]
    | .wait r f => byteOf r.code ++ [flagByte [f]]
    | .halt r f => byteOf r.code ++ [flagByte [f]]
    | .noted r b => beBytes 2 r ++ beBytes 4 b
    | .noAnswer => []
    | .notBound => []
    | .badRequest => []
    | .ignored => []

/-- READ-CLIENT (R171). -/
def State.clientBytes (s : State) (c : ClientId) : List Byte :=
  let x := s.client c
  indexByte (x.binding.map (·.val)) ++ [flagByte [x.flushPending, x.gapPending, x.lastHanded.isSome]]
    ++ beBytes 4 ((x.lastHanded.map (·.segment)).getD 0) ++ byteOf ((x.lastHanded.map (·.rung)).getD 0)
    ++ beBytes 4 ((x.lastHanded.map (·.bitrate)).getD 0) ++ [(x.lastHanded.map (·.profile)).getD 0]
    ++ byteOf x.answer.code ++ byteOf s.baseAddress

/-- READ-NOTICES (R180). -/
def State.noticeBytes (s : State) : List Byte :=
  (allSessions.map fun i => (s.noticesOf i).setWidth 8) ++ [s.partNotices.setWidth 8] ++ beBytes 2 s.noticeEnable.toNat

/-! ### Fetch answers (11.3) -/

/-- The answer as shifted out on FMISO. -/
def FetchAnswer.bytes : FetchAnswer → List Byte
  | .order t i loc seg ex br =>
    0x10 :: (byteOf t ++ byteOf i.val ++ beBytes 2 loc.toNat ++ beBytes 4 seg ++ beBytes 4 ex ++ beBytes 4 br)
  | .cancel t => 0x11 :: byteOf t
  | .nothing => [0x12]
  | .ack => [0x20]
  | .kept => [0x21]
  | .cleared => [0x22]
  | .notTaken => [0x30]
  | .unknownTag => [0x31]
  | .badRecord => [0x32]

/-! ### What is shifted out -/

/-- The first `count` bytes of an answer, 0 after its last (R187, R117, R158, R172). -/
def shiftedOut (answer : List Byte) (count : Nat) : List Byte := (answer ++ List.replicate count 0).take count

/-- What CMISO carries from the turnaround byte on, for as long as select is held: 0, the response held, then 0s (R172, R187). Nothing while
RESET_N is low, when the pin is undriven (R184), and nothing where no response is held, so that the part sends none (log 10). -/
def State.controlOut (s : State) (count : Nat) : Option (List Byte) :=
  if s.inReset then none else s.response.map fun r => shiftedOut (0 :: r.bytes) count

/-- What FMISO carries after the turnaround byte: the answer held, then 0s (R117, R187). Nothing while RESET_N is low, when the pin is undriven
(R184), and nothing where no answer is held, so that the part sends none (log 10). -/
def State.fetchOut (s : State) (count : Nat) : Option (List Byte) :=
  if s.inReset then none else s.fetchAnswer.map fun a => shiftedOut a.bytes count

end Sys2Proof.Machine
end

