-- ==== Sys2Proof/Machine/Control.lean ====
section
/-! DEFINITION. The control port's framing: how every request is taken, decoded and answered (R172–R177). -/

namespace Sys2Proof.Machine

/-- What one command answers. -/
abbrev Result := Host.Outcome State Fault Refusal

/-- The response is fixed as the request is taken; no frame is in progress any more (R172). -/
def State.reply (s : State) (status : Status) (payload : List Byte) : State :=
  { s with response := some ⟨status, payload⟩, controlFrame := none }

/-- A response without payload (R175). -/
def State.respond (s : State) (status : Status) : State := s.reply status []

/-- ACCEPTED, NORMAL with the payload a read request defines (R175). -/
def State.respondWith (s : State) (payload : List Byte) : State := s.reply .normal payload

/-- A frame that has been taken: nothing while RESET_N is low (R184), refused for a wrong declared length (R174), else acted on. -/
def takeFrame (required : Nat) (payload : List Byte) (act : State → State) (s : State) : Result :=
  .next (if s.inReset then s else if payload.length = required then act s else s.respond (.length required))

/-- The session a request names at an offset of its payload, ARGUMENT INDEX detail 0 above 5 (R53, R57–R74). -/
def withSession (payload : List Byte) (offset : Nat) (act : SessionId → State → State) (s : State) : State :=
  match sessionId? (byteAt payload offset) with
  | some i => act i s
  | none => s.respond (.index 0)

/-- STATE, WRONG-STATE with the session's state (R175). -/
def State.wrongState (s : State) (i : SessionId) : State := s.respond (.wrongState (s.session i).state)

/-- Acts where the session's state is one the request is taken in (R57–R70). -/
def inStates (taken : SessionState → Bool) (i : SessionId) (act : State → State) (s : State) : State :=
  if taken (s.session i).state then act s else s.wrongState i

end Sys2Proof.Machine
end

