-- ==== Sys2Proof/Machine/Failures.lean ====
section
/-! DEFINITION. What becomes of an entry whose fetch ended without its segment (chapter 8): the four outcomes, the policies, the charged
failures. -/

namespace Sys2Proof.Machine

/-- The four outcomes of a failure (R144). -/
inductive FailureOutcome where
  | retry (due : Nat)
  | descent
  | skip
  | fault
  deriving DecidableEq, Repr

/-- The entry a slot names. -/
def EntryRef.names (r : EntryRef) (e : Entry) : Bool := e.segment == r.segment

/-- A skip (R151). -/
def State.skipEntry (s : State) (r : EntryRef) : State := (s.release r.session r.names).countSkips r.session 1

/-- A fault, the named entry being the failed one (R152), also in a session that is FAULTED already (R153). -/
def State.faultSession (s : State) (r : EntryRef) : State :=
  (((s.release r.session fun e => decide (r.segment ≤ e.segment)).leaveFor r.session .faulted).sweep r.session).notify
    r.session .faulted

/-- A descent's change of the entry (R146). -/
def Entry.descend (now : Nat) (e : Entry) : Entry :=
  { e.toWaiting now with upperBound := some e.issue.bitrate, lowered := true }

/-- An outcome takes effect; in DRAINING and FAULTED an entry made WAITING is removed by R66 (R144, R153, R154). -/
def State.applyOutcome (s : State) (r : EntryRef) : FailureOutcome → State
  | .retry due => (s.updateEntry r (Entry.toWaiting due)).sweep r.session
  | .descent => (s.updateEntry r (Entry.descend s.now)).sweep r.session
  | .skip => s.skipEntry r
  | .fault => s.faultSession r

/-- HOLD, and DESCEND at the floor: fault at the hold timeout, else a retry after the retry interval (R147). -/
def State.holdOutcome (s : State) (e : Entry) : FailureOutcome :=
  if s.params.holdTimeout ≤ ageOf s.now (e.unavailableSince.getD s.now) then .fault
  else .retry (s.now + s.params.retryInterval)

/-- What the availability policy makes of an UNAVAILABLE result (R145). -/
def State.unavailableOutcome (s : State) (i : SessionId) (e : Entry) : FailureOutcome :=
  match (s.session i).config.policy with
  | .halt => .fault
  | .skip => .skip
  | .descend => if (s.ladderOf i).floor < e.issue.bitrate then .descent else s.holdOutcome e
  | .hold => s.holdOutcome e

/-- Unavailable-since is set to now where it is absent (R145). -/
def Entry.markUnavailable (now : Nat) (e : Entry) : Entry :=
  { e with unavailableSince := some (e.unavailableSince.getD now) }

/-- An UNAVAILABLE result of an entry's fetch (R145–R147). -/
def State.unavailable (s : State) (r : EntryRef) : State :=
  let s₁ := s.updateEntry r (Entry.markUnavailable s.now)
  match s₁.entry? r with
  | some e => s₁.applyOutcome r (s₁.unavailableOutcome r.session e)
  | none => s₁

/-- One failure is charged (R148, R149). -/
def Entry.charge (e : Entry) : Entry := { e with attempts := e.attempts + 1, retried := true }

/-- A charged failure: a retry due at `due` while the attempts are within the limit, else exhaustion (R148–R150). -/
def State.chargedOutcome (s : State) (i : SessionId) (e : Entry) (due : Nat) : FailureOutcome :=
  if e.attempts ≤ (s.session i).config.retryLimit then .retry due
  else if (s.session i).config.policy = .skip then .skip else .fault

/-- A failure charged to an entry, retried at `due` where attempts are left (R148, R149). -/
def State.chargeFailure (s : State) (r : EntryRef) (due : Nat) : State :=
  let s₁ := s.updateEntry r Entry.charge
  match s₁.entry? r with
  | some e => s₁.applyOutcome r (s₁.chargedOutcome r.session e due)
  | none => s₁

/-- The session's stalls counter counts (R149). -/
def State.countStall (s : State) (i : SessionId) : State :=
  s.modifySession i fun x => { x with stats := { x.stats with stalls := count16 x.stats.stalls } }

end Sys2Proof.Machine
end

