-- ==== Sys2Proof/Machine/LinkMeter.lean ====
section
/-! DEFINITION. The Link Meter's windows, samples, estimates and reinitialisation (R2–R12). -/

namespace Sys2Proof.Machine

/-- The greatest rate the part holds, in kbit/s (R6, R8). -/
def maxRate : Nat := 1000000

/-- The sample of a window (R6). -/
def sampleOf (bytes length : Nat) : Nat := clamp 0 maxRate (bytes * 8 / length)

/-- An estimate moved toward a sample by one `weight`-th of the distance, truncated toward zero, and clamped (R7). -/
def moveToward (weight : Nat) (estimate sample : Nat) : Nat :=
  clamp 64 maxRate ((estimate : Int) + ((sample : Int) - (estimate : Int)).tdiv (weight : Int)).toNat

/-- A new window opens with the window length parameter as it stands (R2, R16). -/
def Meter.openWindow (length : Nat) (m : Meter) : Meter :=
  { m with windowBytes := 0, windowElapsed := 0, windowLength := length }

/-- Bytes credited to the open window (R3). -/
def Meter.credit (count : Nat) (m : Meter) : Meter := { m with windowBytes := saturate max32 (m.windowBytes + count) }

/-- The window holds fewer bytes than the thin threshold (R5). -/
def Meter.isThin (threshold : Nat) (m : Meter) : Bool := decide (m.windowBytes < threshold)

/-- A thin window: counted, and nothing else (R5). -/
def Meter.thin (m : Meter) : Meter := { m with thinWindows := count16 m.thinWindows }

/-- The capacity estimate is the lesser of F and L (R8). -/
def Meter.withEstimates (fast slow : Nat) (m : Meter) : Meter :=
  { m with fast := fast, slow := slow, capacity := min fast slow }

/-- A sample moves both estimates from their values before it (R6, R7, R8). -/
def Meter.sample (m : Meter) : Meter :=
  let s := sampleOf m.windowBytes m.windowLength
  { m.withEstimates (moveToward 4 m.fast s) (moveToward 16 m.slow s) with
    lastSample := some s, samples := count16 m.samples }

/-- Stall halving (R9). -/
def Meter.halve (m : Meter) : Meter :=
  { m.withEstimates (max 64 (m.fast / 2)) m.slow with halvings := count16 m.halvings }

/-- Reinitialisation at LINK-RESET: the thin-window count and the paused flag are kept (R12). -/
def Meter.reinitialise (p : LinkParams) (m : Meter) : Meter :=
  { Meter.initial p with paused := m.paused, thinWindows := m.thinWindows }

/-- The open window's elapsed time has reached its length in force while occupied time runs (R4, R1). -/
def State.windowDue (s : State) : Bool := s.occupied && decide (s.meter.windowLength ≤ s.meter.windowElapsed)

/-- A window expiry in the order of R4: the result, the estimates with what follows a new C, the new window. -/
def State.expireWindow (s : State) : State :=
  let s₁ := if s.meter.isThin s.params.thinThreshold then { s with meter := s.meter.thin } else s.present s.meter.sample
  { s₁ with meter := s₁.meter.openWindow s₁.params.windowLength }

end Sys2Proof.Machine
end

