-- ==== Sys2Proof/Machine/Selection.lean ====
section
/-! DEFINITION. The Rung Selector (chapter 6): the selection, the lookup for a held segment, switch and dwell accounting, expected bytes, and
the abandonment check. -/

namespace Sys2Proof.Machine

/-- The fit: what the share and a CAP allow (R100). -/
def fitRung (l : Ladder) (share : Nat) (r : Reservation) : Nat :=
  let fit := l.highestWithin share
  match r with
  | .cap c => min fit (l.highestUpTo c)
  | .pin _ => fit
  | .unreserved => fit

/-- The climb (R104): one enabled rung up, in STEADY, after the dwell setting, with the margin met. -/
def climbRung (x : Session) (l : Ladder) (k : Nat) : Nat :=
  match l.lowest fun r _ => decide (k < r) with
  | some next =>
    if x.zone = .steady ∧ x.config.dwellSetting ≤ x.dwell ∧ l.bitrate next * x.config.upMargin ≤ x.share * 256 then next
    else k
  | none => k

/-- The steps from the fit to the result without a PIN, for a session that is running or priming (R101–R104). -/
def settleRung (x : Session) (l : Ladder) (fit : Nat) : Nat :=
  if x.state = .priming ∨ (x.state = .running ∧ x.currentRung = none) then min fit (l.highestUpTo x.config.startCap)
  else if x.state = .starved ∨ x.zone = .panic then 0
  else
    match x.currentRung with
    | some k => if fit ≤ k then fit else climbRung x l k
    | none => fit

/-- The upper-bound step (R105). -/
def boundRung (l : Ladder) (bound : Option Nat) (r : Nat) : Nat :=
  match bound with
  | some b => if b ≤ l.bitrate r then (l.highest fun _ x => decide (x < b)).getD 0 else r
  | none => r

/-- The selection (R98–R105). -/
def selectRung (x : Session) (l : Ladder) (bound : Option Nat) : Nat :=
  boundRung l bound <|
    match x.reservation with
    | .pin p => p
    | .cap c => settleRung x l (fitRung l x.share (.cap c))
    | .unreserved => settleRung x l (fitRung l x.share .unreserved)

/-- The rung of the lookup for a held segment, where its three conditions hold (R108). -/
def lookupRung (x : Session) (l : Ladder) (e : Entry) : Option Nat :=
  if e.unavailableSince.isSome ∧ (x.config.policy = .hold ∨ x.config.policy = .descend) then
    l.lowest fun _ b =>
      b == e.issue.bitrate && (match e.upperBound with
        | some u => decide (b < u)
        | none => true)
  else none

/-- A switch is counted up or down, dwell starts from 0 (R106, R45). -/
def Session.countSwitch (up : Bool) (x : Session) : Session :=
  { x with
    dwell := 0
    stats :=
      if up then { x.stats with upSwitches := count16 x.stats.upSwitches }
      else { x.stats with downSwitches := count16 x.stats.downSwitches } }

/-- The session's current rung takes a selection's result, and a switch is accounted for (R106). -/
def State.takeRung (s : State) (i : SessionId) (r : Nat) : State :=
  let x := s.session i
  match x.currentRung with
  | some k =>
    if k = r then s
    else (s.setSession i { x.countSwitch (decide (k < r)) with currentRung := some r }).notify i .switched
  | none => s.setSession i { x with currentRung := some r }

/-- Each grant that creates a new entry advances the dwell count (R107). -/
def Session.advanceDwell (x : Session) : Session := { x with dwell := saturate 15 (x.dwell + 1) }

/-- The issue copies and the expected bytes of a rung, from the ladder as it stands (R77, R109). A rung past the last reads as
all 0 (log 16). -/
def Ladder.issue (l : Ladder) (r : Nat) : Issue :=
  match l.rungs[r]? with
  | some g => ⟨r, g.bitrate, g.profile, g.lines, g.locator, l.nominal, g.bitrate * l.nominal / 8⟩
  | none => ⟨r, 0, 0, 0, 0, l.nominal, 0⟩

/-- The projection: the time the remaining bytes need at the share, rounded up (R111). -/
def projection (arrived expected share : Nat) : Nat := ((expected - arrived) * 8 + (share - 1)) / share

/-- The conditions under which an ARRIVAL goes on to the decision (R110). -/
def State.mayAbandon (s : State) (i : SessionId) (e : Entry) : Bool :=
  let x := s.session i
  e.state == .active && blockingEntry x.ledger == some e && x.state == .running && !x.parked
    && (x.zone == .panic || x.zone == .lean) && decide ((s.ladderOf i).floor < e.issue.bitrate)

/-- The decision (R111); the difference is taken as a signed number. -/
def State.mustAbandon (s : State) (i : SessionId) (e : Entry) : Bool :=
  let x := s.session i
  decide (e.arrived * 4 < e.issue.expected * 3)
    && decide ((bufferedMs x.ledger : Int) - (x.config.abandonGuard : Int)
        < (projection e.arrived e.issue.expected x.share : Int))

/-- An abandonment (R112), taken on the TAKEN slot of the entry. -/
def State.abandon (s : State) (j : SlotId) (r : EntryRef) : State :=
  ((s.cancelSlot j true).updateEntry r fun e =>
      { e.toWaiting s.now with upperBound := some e.issue.bitrate, lowered := true }).modifySession r.session fun x =>
    { x with stats := { x.stats with abandonments := count16 x.stats.abandonments } }

end Sys2Proof.Machine
end

