-- ==== Sys2Proof/Machine/FetchRecords.lean ====
section
/-! DEFINITION. The fetch port's records: TAKE, ARRIVAL, DONE, PAUSE, RESUME, LINK_RESET, BAD_RECORD and
FETCH_RECORD_DISCARD (chapter 7). -/

namespace Sys2Proof.Machine

/-- The part's answer to a record, being shifted out; no record is being shifted in any more (R117). -/
def State.answerFetch (s : State) (a : FetchAnswer) : State := { s with fetchAnswer := some a, fetchRecord := [] }

/-- A record the part cannot act on: the answer, and FETCH-PROTOCOL (R118). -/
def State.protocolError (s : State) (a : FetchAnswer) : State := (s.notifyPart .fetchProtocol).answerFetch a

/-- A record that has been taken; none is while RESET_N is low (R184). -/
def takeRecord (act : State → State) (s : State) : Result := .next (if s.inReset then s else act s)

/-! ### TAKE (R128) -/

/-- The order a slot's entry gives (R128). -/
def orderOf (tag : Nat) (r : EntryRef) (c : Issue) : FetchAnswer :=
  .order tag r.session c.locator r.segment c.expected c.bitrate

/-- The slot at the head of the queue becomes TAKEN with its watchdog armed, its entry ACTIVE (R128, R135). -/
def State.collect (s : State) (j : SlotId) (rest : List SlotId) : State :=
  match s.slot j with
  | .queued t r =>
    (({ s.setSlot j (.taken t r 0 s.params.stallLimit) with orderQueue := rest }.updateEntry r fun e =>
      { e with state := .active, tag := some t }).answerFetch (orderOf t r (s.keptCopies r)))
  | _ => { s with orderQueue := rest }.answerFetch .nothing

/-- TAKE (R128): the cancel list first, the order queue second. -/
def execTake (s : State) : Result :=
  takeRecord
    (fun s =>
      match s.cancelList with
      | t :: ts => { s with cancelList := ts }.answerFetch (.cancel t)
      | [] =>
        match s.orderQueue with
        | j :: js => s.collect j js
        | [] => s.answerFetch .nothing)
    s

/-! ### ARRIVAL (R130) -/

/-- Bytes credited to the open window (R3). -/
def State.creditWindow (s : State) (count : Nat) : State := { s with meter := s.meter.credit count }

/-- Bytes credited to a TAKEN slot's entry and to its session (R80). -/
def State.creditEntry (s : State) (r : EntryRef) (count : Nat) : State :=
  (s.updateEntry r fun e => { e with arrived := saturate max32 (e.arrived + count) }).modifySession r.session fun x =>
    { x with stats := { x.stats with bytesArrived := saturate max32 (x.stats.bytesArrived + count) } }

/-- The abandonment check on a TAKEN slot (R110–R112). -/
def State.checkAbandonment (s : State) (j : SlotId) (r : EntryRef) : State :=
  match s.entry? r with
  | some e => if s.mayAbandon r.session e && s.mustAbandon r.session e then s.abandon j r else s
  | none => s

/-- The four steps of an ARRIVAL on a TAKEN slot, in order (R130, R135). -/
def State.arriveTaken (s : State) (j : SlotId) (t : Nat) (r : EntryRef) (count : Nat) : State :=
  ((((s.creditWindow count).creditEntry r count).setSlot j (.taken t r 0 s.params.stallLimit)).checkAbandonment j r).answerFetch
    .ack

/-- ARRIVAL (R130, R118). -/
def execArrival (tag : Byte) (count : BitVec 16) (s : State) : Result :=
  takeRecord
    (fun s =>
      match s.slotOfTag tag.toNat with
      | none => s.protocolError .unknownTag
      | some j =>
        match s.slot j with
        | .taken t r _ _ => s.arriveTaken j t r count.toNat
        | .cancelling _ _ _ _ => (s.creditWindow count.toNat).answerFetch .ack
        | .queued _ _ => s.protocolError .notTaken
        | .free => s.protocolError .unknownTag)
    s

/-! ### DONE (R131, R132) -/

/-- The result brings the segment: COMPLETE or TRUNCATED. -/
def delivers : DoneResult → Bool
  | .complete => true
  | .truncated => true
  | .unavailable => false
  | .failed => false
  | .cancelled => false

/-- What a DONE carries besides tag and result (R117). -/
structure Delivery where
  total : Nat
  token : BitVec 32
  duration : Nat
  truncated : Bool
  deriving DecidableEq, Repr

/-- The slot a DONE ends becomes FREE, and the occupancy condition is read afresh (R131, R132, R1). -/
def State.endFetch (s : State) (j : SlotId) : State := (s.freeSlotAt j).rereadOccupancy s

/-- A DONE on a TAKEN slot: the entry by result, with what follows (R131, R81, R145–R150, R94). -/
def State.doneTaken (s : State) (j : SlotId) (r : EntryRef) (result : DoneResult) (d : Delivery) : State :=
  let before := (s.session r.session).ledger
  let s₁ := s.endFetch j
  match result with
  | .complete =>
    ((s₁.updateEntry r (Entry.toReady d.total d.token d.duration d.truncated)).settle r.session before).answerFetch .kept
  | .truncated =>
    ((s₁.updateEntry r (Entry.toReady d.total d.token d.duration d.truncated)).settle r.session before).answerFetch .kept
  | .unavailable => ((s₁.unavailable r).settle r.session before).answerFetch .cleared
  | .failed => ((s₁.chargeFailure r (s.now + s.params.retryInterval)).settle r.session before).answerFetch .cleared
  | .cancelled => ((s₁.chargeFailure r (s.now + s.params.retryInterval)).settle r.session before).answerFetch .cleared

/-- An adopted entry: the kept copies, the DONE's values, arrived bytes the total (R82). -/
def Entry.adopt (kept : Issue) (d : Delivery) (e : Entry) : Entry :=
  { e.toReady d.total d.token d.duration d.truncated with issue := kept, arrived := d.total }

/-- The entry a back-reference names can be adopted: WAITING or QUEUED (R132). -/
def State.adoptable (s : State) (back : Option EntryRef) : Option EntryRef :=
  match back with
  | some r =>
    match s.entry? r with
    | some e => if e.state = .waiting ∨ e.state = .queued then some r else none
    | none => none
  | none => none

/-- Adoption, a re-issued order withdrawn (R132, R82, R121). -/
def State.adopt (s : State) (r : EntryRef) (kept : Issue) (d : Delivery) : State :=
  ((s.withdraw r).updateEntry r (Entry.adopt kept d)).settle r.session (s.session r.session).ledger

/-- A DONE on a CANCELLING slot: the adoption rule (R132). -/
def State.doneCancelling (s : State) (j : SlotId) (t : Nat) (back : Option EntryRef) (kept : Issue) (result : DoneResult)
    (d : Delivery) : State :=
  let s₁ := { s with cancelList := s.cancelList.filter (· != t) }.endFetch j
  match (if delivers result then s₁.adoptable back else none) with
  | some r => (s₁.adopt r kept d).answerFetch .kept
  | none => s₁.answerFetch .cleared

/-- DONE (R131, R132, R118). -/
def execDone (tag : Byte) (result : DoneResult) (total token : BitVec 32) (duration : BitVec 16) (s : State) : Result :=
  takeRecord
    (fun s =>
      let d : Delivery := ⟨total.toNat, token, duration.toNat, result == .truncated⟩
      match s.slotOfTag tag.toNat with
      | none => s.protocolError .unknownTag
      | some j =>
        match s.slot j with
        | .taken _ r _ _ => s.doneTaken j r result d
        | .cancelling t back kept _ => s.doneCancelling j t back kept result d
        | .queued _ _ => s.protocolError .notTaken
        | .free => s.protocolError .unknownTag)
    s

/-! ### PAUSE, RESUME, LINK_RESET -/

/-- The link-paused flag is set; a PAUSE while it is set changes nothing (R10, R11). -/
def State.pauseLink (s : State) : State :=
  if s.meter.paused then s else { s with meter := { s.meter with paused := true } }.rereadOccupancy s

/-- PAUSE (R10, R137). -/
def execPause (s : State) : Result := takeRecord (fun s => s.pauseLink.answerFetch .ack) s

/-- RESUME (R11, R137). -/
def execResume (s : State) : Result :=
  takeRecord (fun s => { s with meter := { s.meter with paused := false } }.answerFetch .ack) s

/-- An entry that is WAITING falls due now (R138, step 2). -/
def Entry.dueNow (now : Nat) (e : Entry) : Entry := if e.isWaiting then { e with notBefore := some now } else e

/-- LINK-RESET on one slot: steps 1, 2 and 4 (R138). -/
def State.dropSlot (s : State) (j : SlotId) : State :=
  match s.slot j with
  | .taken _ r _ _ => (s.freeSlotAt j).updateEntry r (Entry.toWaiting s.now)
  | .cancelling _ (some r) _ _ => (s.freeSlotAt j).updateEntry r (Entry.dueNow s.now)
  | .cancelling _ none _ _ => s.freeSlotAt j
  | .queued _ _ => s
  | .free => s

/-- The entries LINK-RESET made WAITING in a session that winds down are removed, with what follows (R66, R94). -/
def State.sweepSettled (s : State) (i : SessionId) : State := (s.sweep i).settle i (s.session i).ledger

/-- LINK-RESET, taken whole (R138, R12). -/
def State.resetLink (s : State) : State :=
  let s₁ := allSlots.foldl State.dropSlot s
  let s₂ := { s₁ with cancelList := [], tagCounter := 1, meter := s₁.meter.reinitialise s₁.params }.recompute
  allSessions.foldl State.sweepSettled (s₂.notifyPart .linkReset)

/-- LINK_RESET (R138). -/
def execLinkReset (s : State) : Result := takeRecord (fun s => s.resetLink.answerFetch .ack) s

/-! ### BAD_RECORD and FETCH_RECORD_DISCARD -/

/-- BAD_RECORD (R118, R188). -/
def execBadRecord (bad : BadRecord) (s : State) : Result :=
  if bad.wf then takeRecord (fun s => s.protocolError .badRecord) s else .refused (.notACommand "BAD_RECORD")

/-- FETCH_RECORD_DISCARD: the select period ends; a record not taken is discarded whole, the rest of an answer is lost (R117). -/
def execFetchRecordDiscard (s : State) : Result := .next { s with fetchRecord := [], fetchAnswer := none }

end Sys2Proof.Machine
end

