-- ==== Sys2Proof/Machine/Grants.lean ====
section
/-! DEFINITION. The order arbiter (R124–R127), entry creation and re-issue (R77, R78), and the pool reserve (R90). -/

namespace Sys2Proof.Machine

/-- The reserve a session must leave the other started sessions (R90). -/
def State.reserveFor (s : State) (i : SessionId) : Nat :=
  sumWhere (fun k => k != i && s.isStarted k) fun k => 2 - (s.session k).ledger.length

/-- Room for a new entry: gate, depth limit and reserve (R124, case (b); R90). -/
def State.hasRoom (s : State) (i : SessionId) : Bool :=
  let x := s.session i
  x.gateOpen && decide (x.ledger.length < x.config.depthLimit) && decide (0 < s.poolFree)
    && decide (s.reserveFor i < s.poolFree)

/-- A WAITING entry that is due (R83, R155). -/
def Entry.isDue (now : Nat) (e : Entry) : Bool := e.isWaiting && decide (e.notBefore.getD 0 ≤ now)

/-- The due WAITING entry nearest the head (R124, case (a); R126). -/
def State.dueEntry (s : State) (i : SessionId) : Option Entry := (s.session i).ledger.find? (Entry.isDue s.now)

/-- A candidate of the arbiter (R124). -/
def State.isCandidate (s : State) (i : SessionId) : Bool :=
  s.holdsShare i && decide (inFlightCount (s.session i).ledger < (s.session i).config.pipeline.depth)
    && ((s.dueEntry i).isSome || s.hasRoom i)

/-- An urgent session (R126). -/
def Session.urgent (x : Session) : Bool := x.state == .starved || (x.state == .running && x.zone == .panic)

/-- The sessions counted from the one after the last granted, wrapping from 5 to 0 (R126). -/
def roundRobin (last : SessionId) : List SessionId := allSessions.map fun k => last + 1 + k

/-- The session the arbiter chooses (R126). -/
def State.chosen (s : State) : Option SessionId :=
  let candidates := (roundRobin s.lastGranted).filter s.isCandidate
  match candidates.find? fun i => (s.session i).urgent with
  | some i => some i
  | none => candidates.head?

/-- The tag a grant gives (R120). -/
def State.grantTag (s : State) : Nat := s.freshTag 255 s.tagCounter

/-- A new entry's fields (R77). -/
def newEntry (segment tag : Nat) (issue : Issue) : Entry where
  segment := segment
  state := .queued
  issue := issue
  reported := none
  tag := some tag
  arrived := 0
  total := none
  token := none
  attempts := 0
  notBefore := none
  unavailableSince := none
  upperBound := none
  short := false
  lowered := false
  retried := false
  remaining := none

/-- A re-issue's changes to its entry (R78). -/
def Entry.reissue (tag : Nat) (issue : Issue) (e : Entry) : Entry :=
  { e with state := .queued, issue := issue, arrived := 0, tag := some tag, notBefore := none }

/-- The entry the next creation makes is the final one (R65). -/
def Session.atFinal (x : Session) : Bool := x.config.lastSegment == some x.nextSegment || x.nextSegment == max32

/-- A new entry drawn from the pool joins the ledger at its tail (R77, R89). -/
def State.drawEntry (s : State) (i : SessionId) (e : Entry) : State :=
  { s with poolFree := s.poolFree - 1 }.modifySession i fun x => { x with ledger := x.ledger ++ [e] }

/-- The next segment number advances, or the final entry takes the session to DRAINING (R65, R66). -/
def State.advanceSegment (s : State) (i : SessionId) : State :=
  if (s.session i).atFinal then (s.leaveFor i .draining).sweep i
  else s.modifySession i fun x => { x with nextSegment := x.nextSegment + 1 }

/-- Case (b): selection, dwell, creation (R98, R107, R77, R65). -/
def State.createEntry (s : State) (i : SessionId) : State :=
  let r := selectRung (s.session i) (s.ladderOf i) none
  let s₁ := (s.takeRung i r).modifySession i Session.advanceDwell
  (s₁.drawEntry i (newEntry (s.session i).nextSegment s.grantTag ((s.ladderOf i).issue r))).advanceSegment i

/-- Case (a): the lookup or the selection, and the re-issue (R108, R98, R78). -/
def State.reissueEntry (s : State) (i : SessionId) (e : Entry) : State :=
  let l := s.ladderOf i
  match lookupRung (s.session i) l e with
  | some r => s.updateEntry ⟨i, e.segment⟩ (Entry.reissue s.grantTag (l.issue r))
  | none =>
    let r := selectRung (s.session i) l e.upperBound
    (s.takeRung i r).updateEntry ⟨i, e.segment⟩ (Entry.reissue s.grantTag (l.issue r))

/-- The slot granted takes the tag, the session and the entry, and joins the order queue (R127, step 3; R120). -/
def State.queueOrder (s : State) (j : SlotId) (tag : Nat) (r : EntryRef) : State :=
  { s.setSlot j (.queued tag r) with
    orderQueue := s.orderQueue ++ [j], tagCounter := tagAfter tag, lastGranted := r.session }

/-- A grant of a FREE slot to a session, taken whole (R127). -/
def State.grantSlot (s : State) (j : SlotId) (i : SessionId) : State :=
  let before := (s.session i).ledger
  match s.dueEntry i with
  | some e => ((s.reissueEntry i e).queueOrder j s.grantTag ⟨i, e.segment⟩).settle i before
  | none => ((s.createEntry i).queueOrder j s.grantTag ⟨i, (s.session i).nextSegment⟩).settle i before

/-- The slot and the session of the grant that would be taken now (R125). -/
def State.grantable (s : State) : Option (SlotId × SessionId) :=
  match s.freeSlot, s.chosen with
  | some j, some i => some (j, i)
  | _, _ => none

end Sys2Proof.Machine
end

