-- ==== Sys2Proof/Machine/Events.lean ====
section
/-! DEFINITION. The part's own events: WINDOW_EXPIRY, STALL_WATCHDOG_EXPIRY, NOT_BEFORE_REACHED and GRANT. Each takes place where its
condition holds; where it does not, the event does not arise and nothing changes (log 4). -/

namespace Sys2Proof.Machine

/-- Nothing happens of itself while the part is held in reset (R184, 00_scope.md Pins; log 8). -/
def ownEvent (due : Bool) (act : State → State) (s : State) : Result :=
  .next (if !s.inReset && due then act s else s)

/-- WINDOW_EXPIRY (R4). -/
def execWindowExpiry (s : State) : Result := ownEvent s.windowDue State.expireWindow s

/-- The watchdog of a TAKEN slot has reached its limit in force, or the expiry of a CANCELLING one is owed, and the link is not paused (R135,
R136; log 23). -/
def State.watchdogDue (s : State) (j : SlotId) : Bool :=
  match s.slot j with
  | .taken _ _ elapsed limit => !s.meter.paused && decide (limit ≤ elapsed)
  | .cancelling _ _ _ owed => !s.meter.paused && owed
  | .free => false
  | .queued _ _ => false

/-- Whether a CANCELLING slot owes its watchdog's expiry. -/
def Slot.owing (owed : Bool) : Slot → Slot
  | .cancelling t b k _ => .cancelling t b k owed
  | x => x

/-- The other watchdogs that were due when the expiry of slot `j` was taken, from `before`, and whose fetches its fault has cancelled: each
still expires, and halves F (R9, R136; log 23). -/
def State.oweExpiries (s before : State) (j : SlotId) : State :=
  (allSlots.filter fun k => k != j && before.watchdogDue k).foldl (fun s k => s.setSlot k ((s.slot k).owing true)) s

/-- The expiry of a TAKEN slot's watchdog: the cancellation, the halving with what follows a new C, the entry's side (R136, R9,
R149). -/
def State.expireWatchdog (s : State) (j : SlotId) (r : EntryRef) : State :=
  let s₁ := s.cancelSlot j true
  let s₂ := s₁.present s₁.meter.halve
  (((s₂.countStall r.session).chargeFailure r s.now).settle r.session (s.session r.session).ledger).oweExpiries s j

/-- The expiry that a CANCELLING slot owes: the halving with what follows a new C, and nothing on the entry's side, since the entry has left
its ledger (R9, R136, R143; log 23). -/
def State.expireOwed (s : State) (j : SlotId) : State := (s.setSlot j ((s.slot j).owing false)).present s.meter.halve

/-- STALL_WATCHDOG_EXPIRY (R136). -/
def execStallWatchdogExpiry (slot : SlotId) (s : State) : Result :=
  ownEvent (s.watchdogDue slot)
    (fun s =>
      match s.slot slot with
      | .taken _ r _ _ => s.expireWatchdog slot r
      | .cancelling _ _ _ _ => s.expireOwed slot
      | .free => s
      | .queued _ _ => s)
    s

/-- NOT_BEFORE_REACHED (R155, R83): the entry falls due, which is a comparison of its not-before with now and stores nothing; the
arbiter finds it by `State.dueEntry` from that moment on (log 14). -/
def execNotBeforeReached (_session : SessionId) (_segment : BitVec 32) (s : State) : Result := .next s

/-- GRANT (R125–R127). -/
def execGrant (s : State) : Result :=
  ownEvent true
    (fun s =>
      match s.grantable with
      | some (j, i) => s.grantSlot j i
      | none => s)
    s

/-! ### Time -/

/-- A running watchdog advances by one millisecond (R135). -/
def Slot.tick : Slot → Slot
  | .taken t r elapsed limit => .taken t r (elapsed + 1) limit
  | .free => .free
  | .queued t r => .queued t r
  | .cancelling t b k o => .cancelling t b k o

/-- One millisecond of the timebase passes: occupied time advances while the occupancy condition holds (R1), running watchdogs
while the link is not paused (R135); log 1. -/
def State.tick (s : State) : State :=
  let s₁ := if s.occupied then { s with meter := { s.meter with windowElapsed := s.meter.windowElapsed + 1 } } else s
  let s₂ := if s.meter.paused then s₁ else s₁.mapSlots Slot.tick
  { s₂ with now := s.now + 1 }

/-- The part's own events that are due and change something (R4, R135, R125). -/
def State.dueEvents (s : State) : List Instr :=
  (if s.windowDue then [.windowExpiry] else [])
    ++ ((allSlots.filter s.watchdogDue).map Instr.stallWatchdogExpiry)
    ++ (if s.grantable.isSome then [.grant] else [])

end Sys2Proof.Machine
end

