-- ==== Sys2Proof/Machine/LadderRequests.lean ====
section
/-! DEFINITION. LOAD, COMMIT, PATCH and READ_LADDER, and the remap of bound sessions (chapter 3). -/

namespace Sys2Proof.Machine

/-- The two staging buffers. -/
inductive Buffer where
  | bufferA
  | bufferB
  deriving DecidableEq, Repr

/-- The buffer a byte names (11.2). -/
def bufferOf : Nat → Option Buffer
  | 0 => some .bufferA
  | 1 => some .bufferB
  | _ => none

/-- A staging buffer. -/
def State.staging (s : State) : Buffer → Memory
  | .bufferA => s.stagingA
  | .bufferB => s.stagingB

/-- Replaces a staging buffer. -/
def State.setStaging (s : State) (b : Buffer) (m : Memory) : State :=
  match b with
  | .bufferA => { s with stagingA := m }
  | .bufferB => { s with stagingB := m }

/-- LOAD (R35, R36); its length is 2–250 (R174). -/
def execLoad (payload : List Byte) (s : State) : Result :=
  .next <|
    if s.inReset then s
    else if payload.length < 2 ∨ 250 < payload.length then s.respond (.length 2)
    else
      match bufferOf (byteAt payload 0) with
      | some b =>
        if 127 < byteAt payload 1 then s.respond (.index 0)
        else (s.setStaging b (Memory.load (s.staging b) (byteAt payload 1) (payload.drop 2))).respond .normal
      | none => s.respond (.index 0)

/-! ### Remap (R43–R45) -/

/-- The rung of the new ladder that comes closest to an index of the old one, by bitrate, without going above it (R43). -/
def remapRung (old new : Ladder) (r : Nat) : Nat := new.highestWithin (old.bitrate r)

/-- A reservation keeps its kind, and its index is remapped by its own old bitrate (R44). DEDUCED (log 24): so it is where rung 0 rises above the
current rung too: R190's remap sends an index to rung 0 for which it finds no enabled rung at or below the old bitrate, which R44 defines for
a reserved index. -/
def remapReservation (old new : Ladder) : Reservation → Reservation
  | .unreserved => .unreserved
  | .pin r => .pin (remapRung old new r)
  | .cap r => .cap (remapRung old new r)

/-- The remap of one session: indices moved, a switch counted where the current rung's bitrate changes (R43–R45, R190). -/
def State.remapSession (old new : Ladder) (s : State) (i : SessionId) : State :=
  let x := s.session i
  let moved := { x with reservation := remapReservation old new x.reservation }
  match x.currentRung with
  | none => s.setSession i moved
  | some k =>
    let k' := remapRung old new k
    if new.bitrate k' = old.bitrate k then s.setSession i { moved with currentRung := some k' }
    else
      (s.setSession i
        { moved.countSwitch (decide (old.bitrate k < new.bitrate k')) with currentRung := some k' }).notify i .switched

/-- A ladder replaces the one in a slot: the remap of every bound session, then one recompute where rung 0's bitrate has changed under a
started session (R38, R46). DEDUCED (log 28): that recompute is part of this request, as R38 and R177 say of it, so that a change of C taken
after the request brings a recompute of its own, after this one; both read the new floors, as R48 says. -/
def State.replaceLadder (s : State) (l : LadderId) (new : Ladder) : State :=
  let old := s.ladder l
  ((allSessions.filter (s.boundTo l)).foldl (State.remapSession old new) (s.setLadder l new)).recomputeIf
    (old.floor != new.floor && allSessions.any fun i => s.boundTo l i && s.isStarted i)

/-- The rung checks of step 3 of R37 over a whole ladder, then the replacement or the refusal (R38, R40, R41). -/
def State.validateLadder (s : State) (l : LadderId) (new : Ladder) : State :=
  match firstFaulty 0 none new.rungs with
  | some i => s.respond (.ladder i)
  | none => (s.replaceLadder l new).respond .normal

/-- COMMIT (R37, R38). -/
def execCommit (payload : List Byte) (s : State) : Result :=
  takeFrame 5 payload
    (fun s =>
      let count := byteAt payload 2
      let nominal := beField payload 3 2
      match bufferOf (byteAt payload 0), ladderId? (byteAt payload 1) with
      | some b, some l =>
        if count < 1 ∨ 8 < count ∨ nominal < 500 ∨ 20000 < nominal then s.respond (.ladder 255)
        else s.validateLadder l ⟨nominal, rungsOfBuffer (s.staging b) count⟩
      | _, _ => s.respond (.index 0))
    s

/-- PATCH (R39–R42). -/
def execPatch (payload : List Byte) (s : State) : Result :=
  takeFrame 13 payload
    (fun s =>
      match ladderId? (byteAt payload 0) with
      | some l =>
        match (s.ladder l).rungs[byteAt payload 1]? with
        | some r =>
          s.validateLadder l
            { s.ladder l with rungs := (s.ladder l).rungs.set (byteAt payload 1) (patchRung payload r) }
        | none => s.respond (.index 0)
      | none => s.respond (.index 0))
    s

/-- READ_LADDER (R49): sources 0–7 a slot, 0x10 buffer A, 0x11 buffer B (11.2). -/
def execReadLadder (payload : List Byte) (s : State) : Result :=
  takeFrame 1 payload
    (fun s =>
      match ladderId? (byteAt payload 0) with
      | some l => s.respondWith (s.ladderBytes l)
      | none =>
        if byteAt payload 0 = 0x10 then s.respondWith s.stagingA.bytes
        else if byteAt payload 0 = 0x11 then s.respondWith s.stagingB.bytes
        else s.respond (.index 0))
    s

end Sys2Proof.Machine
end

