-- ==== Sys2Proof/Machine/LinkRequests.lean ====
section
/-! DEFINITION. SET_LINK and READ_LINK (R15–R19, R134, R142, R176, R18). -/

namespace Sys2Proof.Machine

/-- The link parameters are stored together; a change of the safety factor or the headroom causes one recompute (R19, R176). -/
def State.storeParams (s : State) (p : LinkParams) : State :=
  { s with params := p }.recomputeIf (p.safety != s.params.safety || p.headroom != s.params.headroom)

/-- SET_LINK (R15). -/
def execSetLink (payload : List Byte) (s : State) : Result :=
  takeFrame 20 payload
    (fun s =>
      let carried := linkParamsCarried payload
      (s.storeParams carried.clamped).respond (acceptedStatus (countChanged carried.clamped.values carried.values)))
    s

/-- READ_LINK (R18, R32, R141). -/
def execReadLink (payload : List Byte) (s : State) : Result :=
  takeFrame 0 payload (fun s => s.respondWith s.linkBytes) s

end Sys2Proof.Machine
end

