-- ==== Sys2Proof/Machine/NoticeRequests.lean ====
section
/-! DEFINITION. READ_NOTICES, SET_NOTICE_ENABLE, UNKNOWN_REQUEST and CONTROL_FRAME_DISCARD (R180, R181, R174, R173). -/

namespace Sys2Proof.Machine

/-- The notice set emptied (R180). -/
def State.emptyNotices (s : State) : State :=
  { s with sessionNotices := Vector.replicate 6 0, partNotices := 0 }.judgeAttn

/-- READ_NOTICES (R180). -/
def execReadNotices (payload : List Byte) (s : State) : Result :=
  takeFrame 0 payload (fun s => s.emptyNotices.respondWith s.noticeBytes) s

/-- SET_NOTICE_ENABLE (R181); the mask bits above the twelve are ignored (R186). -/
def execSetNoticeEnable (payload : List Byte) (s : State) : Result :=
  takeFrame 2 payload
    (fun s => { s with noticeEnable := BitVec.ofNat 12 (beField payload 0 2) }.judgeAttn.respond .normal) s

/-- UNKNOWN_REQUEST (R174). -/
def execUnknownRequest (code : Byte) (_payload : List Byte) (s : State) : Result :=
  if isRequestCode code then .refused (.notACommand "UNKNOWN_REQUEST")
  else .next (if s.inReset then s else s.respond .unknownRequest)

/-- CONTROL_FRAME_DISCARD: the select period ends; a frame not taken is discarded whole, the rest of a response is lost (R173). -/
def execControlFrameDiscard (s : State) : Result := .next { s with controlFrame := none, response := none }

end Sys2Proof.Machine
end

