-- ==== Sys2Proof/Machine/SessionRequests.lean ====
section
/-! DEFINITION. The session requests (chapter 4) and the two reads of a session (R74, R96, R178). -/

namespace Sys2Proof.Machine

/-- Every state but CLOSED. -/
def notClosed (st : SessionState) : Bool := st != .closed

/-- OPEN's changes to the record (R57). -/
def Session.opening (l : LadderId) (x : Session) : Session :=
  { x.unheld with
    state := .opened
    config := { x.config with ladderSlot := l }
    stats := Statistics.zero
    dwell := 0
    reservation := .unreserved
    currentRung := none
    parked := false
    tainted := false
    gateOpen := true }

/-- OPEN (R57). -/
def execOpen (payload : List Byte) (s : State) : Result :=
  takeFrame 2 payload
    (fun s =>
      match sessionId? (byteAt payload 0), ladderId? (byteAt payload 1) with
      | some i, some l =>
        if (s.session i).state ≠ .closed then s.wrongState i
        else if (s.ladder l).rungs = [] then s.respond .ladderEmpty
        else (s.modifySession i (Session.opening l)).respond .normal
      | _, _ => s.respond (.index 0))
    s

/-! ### CONFIGURE (R53–R56) -/

/-- A ladder slot different from the stored one clears the current rung and the reservation (R56). -/
def Session.storeConfig (c : SessionConfig) (x : Session) : Session :=
  if c.ladderSlot = x.config.ladderSlot then { x with config := c }
  else { x with config := c, currentRung := none, reservation := .unreserved }

/-- The parked flag after a change of class: set by R26, cleared by R28 (R56). -/
def parkedAfter (s : State) (before after : Session) : Bool :=
  if before.isBackground = after.isBackground then after.parked
  else after.isBackground && after.state.started && s.parkingInForce

/-- A changed class or weight: the parked flag, then one recompute (R56, R22). -/
def State.reviewClass (s : State) (i : SessionId) (before : Session) : State :=
  let after := s.session i
  (s.setSession i { after with parked := parkedAfter s before after }).recomputeIf
    (after.config.sessionClass != before.config.sessionClass || after.config.weight != before.config.weight)

/-- The record is written and the effects of R56 follow, for the fields named. -/
def State.configure (s : State) (i : SessionId) (payload : List Byte) : State :=
  let before := s.session i
  let s₁ := (s.setSession i (before.storeConfig (configAfter payload before.config))).reviewClass i before
  let s₂ := if configNames payload 8 || configNames payload 9 then s₁.startTest i else s₁
  if configNames payload 12 || configNames payload 13 then s₂.modifySession i Session.evaluateGate else s₂

/-- OPEN state, and the ladder slot named holds no rungs (R54). -/
def State.namesEmptyLadder (s : State) (i : SessionId) (payload : List Byte) : Bool :=
  (s.session i).state == .opened && configNames payload 1
    && (match ladderId? (configCarried payload 1) with
      | some l => (s.ladder l).rungs == []
      | none => false)

/-- A locked field would change outside OPEN (R54). -/
def State.lockFaultOf (s : State) (i : SessionId) (payload : List Byte) : Option Nat :=
  if (s.session i).state = .opened then none else lockFault payload (s.session i).config

/-- Steps 3 to 7 of R53. -/
def State.configureChecked (s : State) (i : SessionId) (payload : List Byte) : State :=
  let x := s.session i
  match enumFault payload with
  | some n => s.respond (.index n)
  | none =>
    match s.lockFaultOf i payload with
    | some n => s.respond (.locked n)
    | none =>
      if s.namesEmptyLadder i payload then s.respond .ladderEmpty
      else
        match orderFault (configAfter payload x.config) x.state.started x.nextSegment with
        | some n => s.respond (.ordering n)
        | none => (s.configure i payload).respond (acceptedStatus (configClamps payload))

/-- CONFIGURE (R53). -/
def execConfigure (payload : List Byte) (s : State) : Result :=
  takeFrame 50 payload
    (withSession payload 0 fun i => inStates notClosed i fun s => s.configureChecked i payload) s

/-! ### Starting, holding, ending -/

/-- START's changes to the record (R58). -/
def Session.starting (x : Session) : Session :=
  { x with nextSegment := x.config.firstSegment, currentRung := none, dwell := 0 }

/-- START (R58). -/
def execStart (payload : List Byte) (s : State) : Result :=
  takeFrame 1 payload
    (withSession payload 0 fun i =>
      inStates (· == .opened) i fun s =>
        (((s.modifySession i Session.starting).enterStarted i .priming).startTest i).respond .normal)
    s

/-- The states in which a session may be held (R61). -/
def maybeHeld (st : SessionState) : Bool := st != .closed && st != .opened

/-- HOLD_PLAYOUT (R61). -/
def execHoldPlayout (payload : List Byte) (s : State) : Result :=
  takeFrame 1 payload
    (withSession payload 0 fun i =>
      inStates maybeHeld i fun s => (s.modifySession i fun x => { x with held := true }).respond .normal)
    s

/-- RESUME_PLAYOUT (R61). -/
def execResumePlayout (payload : List Byte) (s : State) : Result :=
  takeFrame 1 payload
    (withSession payload 0 fun i =>
      inStates maybeHeld i fun s => (s.modifySession i Session.unheld).respond .normal)
    s

/-- The entries END removes (R64). -/
def Entry.endsWithSession (e : Entry) : Bool := e.state == .waiting || e.state == .queued

/-- The states END is taken in (R64). -/
def mayEnd (st : SessionState) : Bool := st.started || st == .faulted

/-- END (R64); it keeps the held flag (R191). DEDUCED (log 27): a session number above 5, for which R64 states no answer, is refused with ARGUMENT and code INDEX,
detail 0. -/
def execEnd (payload : List Byte) (s : State) : Result :=
  takeFrame 1 payload
    (withSession payload 0 fun i =>
      inStates mayEnd i fun s =>
        (((s.release i Entry.endsWithSession).leaveFor i .draining).settle i (s.session i).ledger).respond .normal)
    s

/-! ### SEEK and CLOSE -/

/-- The bound client learns of a flush (R69, R162, R167). -/
def State.flagFlush (s : State) (i : SessionId) : State :=
  match s.clientOf i with
  | some c => s.setClient c { s.client c with flushPending := true, gapPending := true }
  | none => s

/-- SEEK's changes to the record outside OPEN (R69). -/
def Session.seeking (n : Nat) (x : Session) : Session :=
  { x.unheld with reservation := .unreserved, currentRung := none, dwell := 0, nextSegment := n }

/-- What SEEK does outside OPEN (R69): flush, the record, the client, PRIMING with what follows from it, and the start test. -/
def State.seekAway (s : State) (i : SessionId) (n : Nat) : State :=
  ((((s.flush i).modifySession i (Session.seeking n)).flagFlush i).enterStarted i .priming).startTest i

/-- SEEK (R69). -/
def execSeek (payload : List Byte) (s : State) : Result :=
  takeFrame 5 payload
    (withSession payload 0 fun i =>
      inStates notClosed i fun s =>
        let n := beField payload 1 4
        if !(s.session i).config.lastAtLeast n then s.respond (.ordering 19)
        else
          let s₁ := s.modifySession i fun x => { x with config := { x.config with firstSegment := n } }
          (if (s.session i).state = .opened then s₁ else s₁.seekAway i n).respond .normal)
    s

/-- A client's binding becomes absent, its flags cleared, its last handed absent; its held answer is kept (R161, R162). -/
def Client.unbound (c : Client) : Client := { Client.initial with answer := c.answer }

/-- The client bound to a session is unbound (R70, R161). -/
def State.unbindSession (s : State) (i : SessionId) : State :=
  match s.clientOf i with
  | some c => s.setClient c (s.client c).unbound
  | none => s

/-- CLOSE (R70): the flush releases the PLAYING entry that UNBIND would. -/
def execClose (payload : List Byte) (s : State) : Result :=
  takeFrame 1 payload
    (withSession payload 0 fun i =>
      inStates notClosed i fun s => (((s.flush i).unbindSession i).leaveFor i .closed).respond .normal)
    s

/-! ### Reservations -/

/-- The reservation a kind byte and a rung name (11.2). -/
def reservationOf (kind rung : Nat) : Option Reservation :=
  match kind with
  | 1 => some (.pin rung)
  | 2 => some (.cap rung)
  | _ => none

/-- The rung is in the ladder and enabled (R62). -/
def Ladder.enabledAt (l : Ladder) (r : Nat) : Bool := ((l.rungs[r]?).map (·.enabled)).getD false

/-- SET_RESERVATION (R62). -/
def execSetReservation (payload : List Byte) (s : State) : Result :=
  takeFrame 3 payload
    (withSession payload 0 fun i =>
      inStates notClosed i fun s =>
        match reservationOf (byteAt payload 1) (byteAt payload 2) with
        | none => s.respond (.index 0)
        | some r =>
          if !(s.ladderOf i).enabledAt (byteAt payload 2) then s.respond (.index (byteAt payload 2))
          else if (s.session i).reservation ≠ .unreserved then s.respond .reserved
          else (s.modifySession i fun x => { x with reservation := r }).respond .normal)
    s

/-- CLEAR_RESERVATION (R63). -/
def execClearReservation (payload : List Byte) (s : State) : Result :=
  takeFrame 1 payload
    (withSession payload 0 fun i =>
      inStates notClosed i fun s =>
        (s.modifySession i fun x => { x with reservation := .unreserved }).respond .normal)
    s

/-! ### Reads -/

/-- READ_SESSION (R74, R178). -/
def execReadSession (payload : List Byte) (s : State) : Result :=
  takeFrame 1 payload (withSession payload 0 fun i s => s.respondWith (s.sessionBytes i)) s

/-- READ_LEDGER (R96). -/
def execReadLedger (payload : List Byte) (s : State) : Result :=
  takeFrame 2 payload
    (withSession payload 0 fun i s =>
      if 15 < byteAt payload 1 then s.respond (.index 0) else s.respondWith (s.ledgerBytes i (byteAt payload 1)))
    s

end Sys2Proof.Machine
end

