-- ==== Sys2Proof/Machine/PlayoutRequests.lean ====
section
/-! DEFINITION. BIND, UNBIND and READ_CLIENT (R160, R161, R171). -/

namespace Sys2Proof.Machine

/-- BIND (R160). -/
def execBind (payload : List Byte) (s : State) : Result :=
  takeFrame 2 payload
    (fun s =>
      match sessionId? (byteAt payload 0), sessionId? (byteAt payload 1) with
      | some c, some i =>
        if (s.session i).state = .closed then s.wrongState i
        else
          match (s.client c).binding with
          | some j => s.respond (.clientBound j)
          | none =>
            match s.clientOf i with
            | some d => s.respond (.sessionBound d)
            | none => (s.setClient c { (s.client c).unbound with binding := some i }).respond .normal
      | _, _ => s.respond (.index 0))
    s

/-- The entry is PLAYING. -/
def Entry.isPlaying (e : Entry) : Bool := e.state == .playing

/-- A session's PLAYING entry, if it has one, is released, with what follows (R86, R94). -/
def State.releasePlaying (s : State) (i : SessionId) : State :=
  (s.release i Entry.isPlaying).settle i (s.session i).ledger

/-- UNBIND (R161). -/
def execUnbind (payload : List Byte) (s : State) : Result :=
  takeFrame 1 payload
    (withSession payload 0 fun c s =>
      match (s.client c).binding with
      | none => s.respond .normal
      | some i => ((s.releasePlaying i).setClient c (s.client c).unbound).respond .normal)
    s

/-- READ_CLIENT (R171). -/
def execReadClient (payload : List Byte) (s : State) : Result :=
  takeFrame 1 payload (withSession payload 0 fun c s => s.respondWith (s.clientBytes c)) s

end Sys2Proof.Machine
end

