-- ==== Sys2Proof/Machine/PlayoutTransfers.lean ====
section
/-! DEFINITION. The playout link's transfers: NEXT, PROGRESS, MALFORMED_TRANSFER and PLAYOUT_READ_TRANSFER (chapter 9). -/

namespace Sys2Proof.Machine

/-- The answer replaces the client's held answer; the write transfer has ended (R158). -/
def State.answerClient (s : State) (c : ClientId) (a : PlayoutAnswer) : State :=
  { s.setClient c { s.client c with answer := a } with playoutWrite := none }

/-- A transfer to one of the part's six addresses; no other is acknowledged, and none while RESET_N is low (R157, R184). -/
def takeTransfer (address : PlayoutAddress) (act : ClientId → State → State) (s : State) : Result :=
  .next
    (match s.addressed address with
    | some c => act c s
    | none => s)

/-- A request from an unbound client (R163, R169). -/
def State.notBound (s : State) (c : ClientId) : State := (s.notifyPart .clientProtocol).answerClient c .notBound

/-! ### NEXT (R163) -/

/-- The flush-pending flag is cleared by the answer that carries or overtakes it (R167). -/
def State.clearFlush (s : State) (c : ClientId) : State := s.setClient c { s.client c with flushPending := false }

/-- A WAIT answer, with FLUSHED where a flush is pending (R163, R167). -/
def State.answerWait (s : State) (c : ClientId) (r : WaitReason) : State :=
  (s.clearFlush c).answerClient c (.wait r (s.client c).flushPending)

/-- A HALT answer, with FLUSHED where a flush is pending (R163, R167). DEDUCED (log 26): the flag is cleared at the HALT of drain completion
too, as at every HALT (R167), although R168 says that the client's flags are kept there. -/
def State.answerHalt (s : State) (c : ClientId) (r : HaltReason) : State :=
  (s.clearFlush c).answerClient c (.halt r (s.client c).flushPending)

/-- SWITCH: another bitrate or profile than the last handed (R165). -/
def switchFlag (last : Option LastHanded) (e : Entry) : Bool :=
  match last with
  | some h => h.bitrate != e.issue.bitrate || h.profile != e.issue.profile
  | none => false

/-- GAP: a flush is owed, or the number does not follow the last handed (R165). -/
def gapFlag (gapPending : Bool) (last : Option LastHanded) (e : Entry) : Bool :=
  gapPending ||
    match last with
    | some h => e.segment != h.segment + 1
    | none => false

/-- The SEGMENT answer's fields (R164, R165). -/
def handedOf (i : SessionId) (c : Client) (e : Entry) : HandedSegment where
  session := i
  segment := e.segment
  rung := e.issue.rung
  bitrate := e.issue.bitrate
  profile := e.issue.profile
  lines := e.issue.lines
  duration := e.duration
  total := e.total.getD 0
  token := e.token.getD 0
  switch := switchFlag c.lastHanded e
  gap := gapFlag c.gapPending c.lastHanded e
  short := e.short
  lowered := e.lowered
  retried := e.retried

/-- The entry handed becomes PLAYING (R84). -/
def Entry.toPlaying (e : Entry) : Entry := { e with state := .playing, remaining := some e.duration }

/-- The client record after a handing (R164, R167). -/
def Client.handed (h : HandedSegment) (c : Client) : Client :=
  { c with
    flushPending := false
    gapPending := false
    lastHanded := some ⟨h.segment, h.rung, h.bitrate, h.profile⟩ }

/-- The session's handed counter counts (R164, R73). -/
def Session.countHanded (x : Session) : Session :=
  { x with stats := { x.stats with handed := saturate max32 (x.stats.handed + 1) } }

/-- The READY head is handed (R164, R84). -/
def State.handHead (s : State) (c : ClientId) (i : SessionId) (e : Entry) : State :=
  let h := handedOf i (s.client c) e
  (((s.updateEntry ⟨i, e.segment⟩ Entry.toPlaying).modifySession i Session.countHanded).setClient c
    ((s.client c).handed h)).answerClient c (.segment h)

/-- Drain completion (R67). -/
def State.completeDrain (s : State) (i : SessionId) : State :=
  (s.modifySession i fun x => { x.unheld with state := .opened }).notify i .drained

/-- A RUNNING session starves; the restart test is made at the end (R60). -/
def State.starve (s : State) (i : SessionId) : State :=
  ((s.modifySession i fun x =>
      { x with state := .starved, stats := { x.stats with starvations := count16 x.stats.starvations } }).notify i
    .starved).startTest i

/-- The head of a ledger, if it is READY. -/
def readyHead (ledger : List Entry) : Option Entry :=
  match ledger with
  | e :: _ => if e.state = .ready then some e else none
  | [] => none

/-- Steps 3 to 11 of R163, on the ledger as the release of step 2 has left it. A bound session is never CLOSED; one that were would be
answered as an OPEN one is (log 16). DEDUCED (log 25): a held session in DRAINING is answered WAIT with reason HELD at every NEXT that finds
entries (R191); one that finds none, be it a later one, completes the drain by step 4, which clears the held flag (R61, R67, R168). -/
def State.answerNext (s : State) (c : ClientId) (i : SessionId) : State :=
  let x := s.session i
  match x.state with
  | .closed => s.answerHalt c .idle
  | .opened => s.answerHalt c .idle
  | .priming => s.answerWait c .priming
  | .starved => if x.held then s.answerWait c .held else s.answerWait c .starved
  | .running =>
    if x.held then s.answerWait c .held
    else
      match readyHead x.ledger with
      | some e => s.handHead c i e
      | none => (s.starve i).answerWait c .starved
  | .draining =>
    if x.ledger = [] then (s.completeDrain i).answerHalt c .ended
    else if x.held then s.answerWait c .held
    else
      match readyHead x.ledger with
      | some e => s.handHead c i e
      | none => s.answerWait c .draining
  | .faulted =>
    match readyHead x.ledger with
    | none => s.answerHalt c .fault
    | some e => if x.held then s.answerWait c .held else s.handHead c i e

/-- NEXT (R163). -/
def execNext (address : PlayoutAddress) (s : State) : Result :=
  takeTransfer address
    (fun c s =>
      match (s.client c).binding with
      | none => s.notBound c
      | some i => (s.releasePlaying i).answerNext c i)
    s

/-! ### PROGRESS (R169) -/

/-- remaining_ms after an elapsed time (R85). -/
def Entry.remainingAfter (elapsed : Nat) (e : Entry) : Nat := e.duration - min elapsed e.duration

/-- The PLAYING entry's remaining_ms is set, with what follows (R85, R94). -/
def State.progressOn (s : State) (i : SessionId) (e : Entry) (elapsed : Nat) : State :=
  (s.updateEntry ⟨i, e.segment⟩ fun e => { e with remaining := some (e.remainingAfter elapsed) }).settle i
    (s.session i).ledger

/-- PROGRESS (R169). -/
def execProgress (address : PlayoutAddress) (elapsed : BitVec 16) (s : State) : Result :=
  takeTransfer address
    (fun c s =>
      match (s.client c).binding with
      | none => s.notBound c
      | some i =>
        match (s.session i).ledger.find? Entry.isPlaying with
        | none => s.answerClient c .ignored
        | some e =>
          let s₁ := s.progressOn i e elapsed.toNat
          s₁.answerClient c (.noted (e.remainingAfter elapsed.toNat) (bufferedMs (s₁.session i).ledger)))
    s

/-! ### MALFORMED_TRANSFER and PLAYOUT_READ_TRANSFER -/

/-- MALFORMED_TRANSFER (R159). -/
def execMalformedTransfer (address : PlayoutAddress) (bytes : List Byte) (s : State) : Result :=
  if isMalformedTransfer bytes then
    takeTransfer address (fun c s => (s.notifyPart .clientProtocol).answerClient c .badRequest) s
  else .refused (.notACommand "MALFORMED_TRANSFER")

/-- The first `count` bytes of a held answer, 0 after its last (R158). -/
def readOut (a : PlayoutAnswer) (count : Nat) : List Byte := shiftedOut a.bytes count

/-- PLAYOUT_READ_TRANSFER: no state of the part changes; the bytes returned are the model's output (R158; log 10). -/
def execPlayoutReadTransfer (address : PlayoutAddress) (count : Nat) (s : State) : Result :=
  takeTransfer address (fun c s => { s with playoutOut := readOut (s.client c).answer count }) s

end Sys2Proof.Machine
end

