-- ==== Sys2Proof/Machine/Resets.lean ====
section
/-! DEFINITION. POWER_ON, RESET_N_FALLS and RESET_PART (R184, R183 and the reset tables of each chapter). -/

namespace Sys2Proof.Machine

/-- POWER_ON: every block at its power-on values, the straps sampled (R184, R157). -/
def execPowerOn (straps : BitVec 3) (s : State) : Result :=
  .next { State.powerOn straps with pending := s.pending, openChoices := s.openChoices }

/-- RESET_N_FALLS: the part is held in reset; every select period under way is abandoned, ATTN released (R184, R13; log 7). The
straps are sampled anew at POWER_ON. -/
def execResetNFalls (s : State) : Result :=
  .next
    { State.powerOn 0 with
      inReset := true, baseAddress := s.baseAddress, pending := s.pending, openChoices := s.openChoices }

/-- Every block at its RESET-PART values (R183, R14, R31, R50, R75, R97, R140, R162). -/
def State.resetBlocks (s : State) : State :=
  { s with
    meter := Meter.initial s.params
    usable := usableBudget s.params.initialEstimate s.params.safety s.params.headroom
    parkingInForce := false
    congested := false
    sessions := Vector.replicate 6 Session.initial
    poolFree := 48
    slots := Vector.replicate 12 Slot.free
    tagCounter := 1
    orderQueue := []
    cancelList := []
    lastGranted := 5
    clients := Vector.replicate 6 Client.initial
    sessionNotices := Vector.replicate 6 0
    partNotices := 0 }.judgeAttn

/-- RESET_PART (R183). -/
def execResetPart (payload : List Byte) (s : State) : Result :=
  takeFrame 0 payload (fun s => s.resetBlocks.respond .normal) s

end Sys2Proof.Machine
end

