-- ==== Sys2Proof/Machine/Dispatch.lean ====
section
/-! DEFINITION. One arm per command: the direct call of its meaning. -/

namespace Sys2Proof.Machine

def exec (i : Instr) (s : State) : Host.Outcome State Fault Refusal :=
  match i with
  -- reset pins
  | .powerOn straps => Sys2Proof.Machine.execPowerOn straps s
  -- control requests
  | .setLink payload => Sys2Proof.Machine.execSetLink payload s
  | .readLink payload => Sys2Proof.Machine.execReadLink payload s
  | .load payload => Sys2Proof.Machine.execLoad payload s
  | .commit payload => Sys2Proof.Machine.execCommit payload s
  | .patch payload => Sys2Proof.Machine.execPatch payload s
  | .readLadder payload => Sys2Proof.Machine.execReadLadder payload s
  | .openSession payload => Sys2Proof.Machine.execOpen payload s
  | .configure payload => Sys2Proof.Machine.execConfigure payload s
  | .start payload => Sys2Proof.Machine.execStart payload s
  | .holdPlayout payload => Sys2Proof.Machine.execHoldPlayout payload s
  | .resumePlayout payload => Sys2Proof.Machine.execResumePlayout payload s
  | .endSession payload => Sys2Proof.Machine.execEnd payload s
  | .seek payload => Sys2Proof.Machine.execSeek payload s
  | .closeSession payload => Sys2Proof.Machine.execClose payload s
  | .setReservation payload => Sys2Proof.Machine.execSetReservation payload s
  | .clearReservation payload => Sys2Proof.Machine.execClearReservation payload s
  | .readSession payload => Sys2Proof.Machine.execReadSession payload s
  | .readLedger payload => Sys2Proof.Machine.execReadLedger payload s
  | .bindClient payload => Sys2Proof.Machine.execBind payload s
  | .unbindClient payload => Sys2Proof.Machine.execUnbind payload s
  | .readClient payload => Sys2Proof.Machine.execReadClient payload s
  | .readNotices payload => Sys2Proof.Machine.execReadNotices payload s
  | .setNoticeEnable payload => Sys2Proof.Machine.execSetNoticeEnable payload s
  | .resetPart payload => Sys2Proof.Machine.execResetPart payload s
  | .unknownRequest code payload => Sys2Proof.Machine.execUnknownRequest code payload s
  | .controlFrameDiscard => Sys2Proof.Machine.execControlFrameDiscard s
  -- fetch records
  | .take => Sys2Proof.Machine.execTake s
  | .arrival tag count => Sys2Proof.Machine.execArrival tag count s
  | .done tag result total token duration => Sys2Proof.Machine.execDone tag result total token duration s
  | .pause => Sys2Proof.Machine.execPause s
  | .resume => Sys2Proof.Machine.execResume s
  | .linkReset => Sys2Proof.Machine.execLinkReset s
  | .badRecord bad => Sys2Proof.Machine.execBadRecord bad s
  | .fetchRecordDiscard => Sys2Proof.Machine.execFetchRecordDiscard s
  -- playout transfers
  | .next address => Sys2Proof.Machine.execNext address s
  | .progress address elapsed => Sys2Proof.Machine.execProgress address elapsed s
  | .malformedTransfer address bytes => Sys2Proof.Machine.execMalformedTransfer address bytes s
  | .playoutReadTransfer address count => Sys2Proof.Machine.execPlayoutReadTransfer address count s
  -- the part's own events
  | .windowExpiry => Sys2Proof.Machine.execWindowExpiry s
  | .stallWatchdogExpiry slot => Sys2Proof.Machine.execStallWatchdogExpiry slot s
  | .notBeforeReached session segment => Sys2Proof.Machine.execNotBeforeReached session segment s
  | .grant => Sys2Proof.Machine.execGrant s
  | .resetNFalls => Sys2Proof.Machine.execResetNFalls s

end Sys2Proof.Machine
end

