-- ==== Sys2Proof/Machine/Idle.lean ====
section
/-! DEFINITION. What the part does when no command waits: an event of its own that is due, or the passing of one
millisecond (DESIGN CHOICE, logs 1 and 2). -/

namespace Sys2Proof.Machine

/-- One of several due events, by the free value (log 2). -/
def pickEvent (choice : Nat) (events : List Instr) : Instr :=
  events.getD (Config.tieBreak choice % events.length) .grant

/-- The step on an empty queue: the due event, the freely chosen one of several, or one millisecond; nothing while the part is
held in reset. -/
def State.idle (s : State) : Host.Outcome State Fault Refusal :=
  if s.inReset then .next s
  else
    match s.dueEvents with
    | [] => .next s.tick
    | [e] => exec e s
    | es => exec (pickEvent s.openChoices es) { s with openChoices := s.openChoices + 1 }

end Sys2Proof.Machine
end

