-- ==== Sys2Proof/Safety.lean ====
section
/-! DEFINITION. What a sound state of the part is: for each block, the ranges and relations that the spec's tables and rules give,
as properties of one state. Each is meant to hold after reset and to be kept by every step. -/

namespace Sys2Proof.Machine

/-! ### Link parameters and Link Meter -/

/-- The link parameters lie in their ranges (R15, R19, R134, R142). -/
abbrev LinkParams.InRange (p : LinkParams) : Prop :=
  (20 ≤ p.windowLength ∧ p.windowLength ≤ 1000) ∧ p.thinThreshold ≤ 65535
    ∧ (64 ≤ p.initialEstimate ∧ p.initialEstimate ≤ 1000000) ∧ (128 ≤ p.safety ∧ p.safety ≤ 256) ∧ p.headroom ≤ 100000
    ∧ (200 ≤ p.stallLimit ∧ p.stallLimit ≤ 10000) ∧ (50 ≤ p.retryInterval ∧ p.retryInterval ≤ 5000)
    ∧ (500 ≤ p.holdTimeout ∧ p.holdTimeout ≤ 60000)

/-- The Link Meter's state lies in the ranges of its table, and C is the lesser of F and L (chapter 1, R8). -/
abbrev Meter.InRange (m : Meter) : Prop :=
  (64 ≤ m.fast ∧ m.fast ≤ 1000000) ∧ (64 ≤ m.slow ∧ m.slow ≤ 1000000) ∧ m.capacity = min m.fast m.slow
    ∧ m.windowBytes ≤ 4294967295 ∧ (20 ≤ m.windowLength ∧ m.windowLength ≤ 1000) ∧ m.windowElapsed ≤ m.windowLength
    ∧ m.lastSample.getD 0 ≤ 1000000 ∧ m.samples ≤ 65535 ∧ m.halvings ≤ 65535 ∧ m.thinWindows ≤ 65535

/-- Link parameters and Link Meter in range. -/
abbrev State.LinkInRange (s : State) : Prop := s.params.InRange ∧ s.meter.InRange

/-! ### Budget Allocator -/

/-- U, every share and the congested flag are those of the capacity estimate, the link parameters, the sessions and the
ladders as they stand (R20, R24, R30): no cause of a recompute has been missed (R22). -/
abbrev State.BudgetCurrent (s : State) : Prop :=
  s.usable = usableBudget s.meter.capacity s.params.safety s.params.headroom
    ∧ (∀ i : SessionId, (s.session i).share = s.shareOf i)
    ∧ s.congested = decide (s.usable < s.floorSumViewed)

/-- While parking is in force the started BACKGROUND sessions are parked, and no other session ever is (R25–R28). -/
abbrev State.ParkingConsistent (s : State) : Prop :=
  ∀ i : SessionId,
    (s.session i).parked = (s.parkingInForce && (s.session i).isBackground && (s.session i).state.started)

/-- Neither parking action is due: P_all is at most U, or no BACKGROUND session holds a share, while parking is not in force (R25); P_all is above
seven eighths of U while it is (R27). -/
abbrev State.NoParkingDue (s : State) : Prop :=
  (s.parkingInForce = false → s.usable < s.floorSumAll → ∀ i : SessionId,
      (s.session i).state.started = true → (s.session i).isBackground = true → (s.session i).parked = true)
    ∧ (s.parkingInForce = true → s.usable * 7 / 8 < s.floorSumAll)

/-! ### Ladder Store -/

/-- A ladder slot: empty with nominal duration 0, or 1–8 rungs in range with strictly rising bitrates and rung 0 enabled (R33). -/
abbrev Ladder.Valid (l : Ladder) : Prop :=
  (l.rungs = [] ∧ l.nominal = 0) ∨
    ((1 ≤ l.rungs.length ∧ l.rungs.length ≤ 8) ∧ (500 ≤ l.nominal ∧ l.nominal ≤ 20000)
      ∧ (l.rungs.map (·.bitrate)).Pairwise (· < ·)
      ∧ (∀ r ∈ l.rungs, 32 ≤ r.bitrate ∧ r.bitrate ≤ 100000 ∧ r.lines ≤ 4320)
      ∧ (l.rungs.head?.map (·.enabled)) = some true)

/-- Every ladder slot is valid. -/
abbrev State.LaddersValid (s : State) : Prop := ∀ l : LadderId, (s.ladder l).Valid

/-- Both staging buffers keep their canonical form (R34). -/
abbrev State.StagingSound (s : State) : Prop := s.stagingA.wf = true ∧ s.stagingB.wf = true

/-! ### Session Table -/

/-- The rung of a reservation. -/
def Reservation.rung? : Reservation → Option Nat
  | .unreserved => none
  | .pin r => some r
  | .cap r => some r

/-- A session that is not CLOSED is bound to a ladder with rungs, and its current rung and its reserved rung are rungs
of it (R43, R44, R56, R62). -/
abbrev State.RungsWithinLadder (s : State) : Prop :=
  ∀ i : SessionId, (s.session i).state ≠ .closed →
    (s.ladderOf i).rungs ≠ [] ∧ (∀ r ∈ (s.session i).currentRung, r < (s.ladderOf i).rungs.length)
      ∧ (∀ r ∈ (s.session i).reservation.rung?, r < (s.ladderOf i).rungs.length)

/-- The configuration fields lie in their ranges and in their order (R52, R55). -/
abbrev SessionConfig.InRange (c : SessionConfig) : Prop :=
  (1 ≤ c.weight ∧ c.weight ≤ 15) ∧ (2 ≤ c.depthLimit ∧ c.depthLimit ≤ 16) ∧ c.retryLimit ≤ 7
    ∧ c.startLevel ≤ c.fullLevel ∧ c.restartLevel ≤ c.fullLevel
    ∧ c.panicLevel < c.steadyLevel ∧ c.steadyLevel < c.fullLevel ∧ c.fullLevel ≤ 60000
    ∧ (500 ≤ c.hysteresis ∧ c.hysteresis ≤ 30000) ∧ c.hysteresis < c.fullLevel
    ∧ c.startCap ≤ 7 ∧ c.dwellSetting ≤ 15 ∧ (256 ≤ c.upMargin ∧ c.upMargin ≤ 512) ∧ c.abandonGuard ≤ 10000
    ∧ c.firstSegment ≤ 4294967295 ∧ (∀ l ∈ c.lastSegment, c.firstSegment ≤ l ∧ l ≤ 4294967295)

/-- The counters lie below their maxima (R73). -/
abbrev Statistics.InRange (n : Statistics) : Prop :=
  n.handed ≤ 4294967295 ∧ n.upSwitches ≤ 65535 ∧ n.downSwitches ≤ 65535 ∧ n.starvations ≤ 65535 ∧ n.stalls ≤ 65535
    ∧ n.abandonments ≤ 65535 ∧ n.skips ≤ 65535 ∧ n.bytesArrived ≤ 4294967295

/-- A session record in range; a started session's next segment number does not pass its last segment (R52, R55, R65, R73, R107). -/
abbrev Session.InRange (x : Session) : Prop :=
  x.config.InRange ∧ x.stats.InRange ∧ x.dwell ≤ 15 ∧ x.nextSegment ≤ 4294967295
    ∧ (x.state.started = true → ∀ l ∈ x.config.lastSegment, x.nextSegment ≤ l)

/-- Every session record is in range. -/
abbrev State.SessionsInRange (s : State) : Prop := ∀ i : SessionId, (s.session i).InRange

/-- A session in OPEN is not held (R58, R61). -/
abbrev State.OpenUnheld (s : State) : Prop := ∀ i : SessionId, (s.session i).state = .opened → (s.session i).held = false

/-! ### Segment Ledger and Entry Pool -/

/-- The 48 entries are in the pool or in the ledgers (R89). -/
abbrev State.PoolConserved (s : State) : Prop :=
  s.poolFree + (allSessions.map fun i => (s.session i).ledger.length).sum = 48

/-- A ledger: segment numbers strictly rising, below the next one of a started session; empty in CLOSED and OPEN; a PLAYING entry only at
the head, with a remaining_ms within its duration (R51, R65, R84, R85, R87). -/
abbrev Session.LedgerSound (x : Session) : Prop :=
  (x.ledger.map (·.segment)).Pairwise (· < ·)
    ∧ (x.state.started = true → ∀ e ∈ x.ledger, e.segment < x.nextSegment)
    ∧ (x.state = .closed ∨ x.state = .opened → x.ledger = [])
    ∧ (∀ e ∈ x.ledger.tail, e.state ≠ .playing)
    ∧ (∀ e ∈ x.ledger, e.state = .playing → e.remaining.any (fun m => decide (m ≤ e.duration)) = true)

/-- Every ledger is sound. -/
abbrev State.LedgersSound (s : State) : Prop := ∀ i : SessionId, (s.session i).LedgerSound

/-- A session in DRAINING or FAULTED holds no WAITING entry (R66). -/
abbrev State.NoneWaitingWhileWinding (s : State) : Prop :=
  ∀ i : SessionId, (s.session i).state.winding = true → ∀ e ∈ (s.session i).ledger, e.state ≠ .waiting

/-- A session is tainted exactly while an entry of its ledger carries SHORT (R95); the ledger of a CLOSED session is empty. -/
abbrev State.TaintFollows (s : State) : Prop :=
  ∀ i : SessionId, (s.session i).tainted = anyShort (s.session i).ledger
    ∧ ((s.session i).state = .closed → (s.session i).ledger = [])

/-! ### Fetch Order Unit -/

/-- The slot is QUEUED. -/
def Slot.isQueued : Slot → Bool
  | .queued _ _ => true
  | .free => false
  | .taken _ _ _ _ => false
  | .cancelling _ _ _ _ => false

/-- The slot is CANCELLING a given tag. -/
def Slot.cancels (t : Nat) : Slot → Bool
  | .cancelling t' _ _ _ => t' == t
  | .free => false
  | .queued _ _ => false
  | .taken _ _ _ _ => false

/-- Live tags are 1–255 and belong to one slot each, the order queue lists the QUEUED slots once each, and the cancel list lists tags of
CANCELLING slots once each (R119, R120, R123). -/
abbrev State.TagsSound (s : State) : Prop :=
  (∀ j : SlotId, ∀ t ∈ (s.slot j).tag?, 1 ≤ t ∧ t ≤ 255)
    ∧ (∀ j k : SlotId, ∀ t ∈ (s.slot j).tag?, (s.slot k).tag? = some t → j = k)
    ∧ (1 ≤ s.tagCounter ∧ s.tagCounter ≤ 255)
    ∧ s.orderQueue.Nodup ∧ (∀ j : SlotId, j ∈ s.orderQueue ↔ (s.slot j).isQueued = true)
    ∧ s.cancelList.Nodup ∧ (∀ t ∈ s.cancelList, ∃ j : SlotId, (s.slot j).cancels t = true)

/-- A slot and the entry it names agree: a QUEUED or TAKEN slot names an entry that is QUEUED or ACTIVE under the slot's tag, and a
back-reference names an entry that is still in its ledger (R76, R119, R86). -/
def State.slotAgrees (s : State) : Slot → Bool
  | .free => true
  | .queued t r => (s.entry? r).any fun e => e.state == .queued && e.tag == some t
  | .taken t r _ _ => (s.entry? r).any fun e => e.state == .active && e.tag == some t
  | .cancelling _ none _ _ => true
  | .cancelling _ (some r) _ _ => (s.entry? r).isSome

/-- A slot holds the order or the fetch of an entry. -/
def Slot.serves (i : SessionId) (e : Entry) : Slot → Bool
  | .free => false
  | .queued t r => e.state == .queued && r == ⟨i, e.segment⟩ && e.tag == some t
  | .taken t r _ _ => e.state == .active && r == ⟨i, e.segment⟩ && e.tag == some t
  | .cancelling _ _ _ _ => false

/-- Slots and ledgers agree, both ways (R76, R119). -/
abbrev State.FetchesAgree (s : State) : Prop :=
  (∀ j : SlotId, s.slotAgrees (s.slot j) = true)
    ∧ (∀ i : SessionId, ∀ e ∈ (s.session i).ledger, e.inFlight = true → ∃ j : SlotId, (s.slot j).serves i e = true)

/-! ### Playout Link Unit and Control Port -/

/-- A session that is bound is not CLOSED and is bound to one client; an unbound client's record holds nothing (R160–R162). -/
abbrev State.BindingsSound (s : State) : Prop :=
  (∀ c : ClientId, ∀ i ∈ (s.client c).binding, (s.session i).state ≠ .closed)
    ∧ (∀ c d : ClientId, ∀ i ∈ (s.client c).binding, (s.client d).binding = some i → c = d)
    ∧ (∀ c : ClientId, (s.client c).binding = none →
        (s.client c).flushPending = false ∧ (s.client c).gapPending = false ∧ (s.client c).lastHanded = none)

/-- ATTN is driven exactly while the notice set holds a member of an enabled kind (R182). -/
abbrev State.AttnJudged (s : State) : Prop := s.attn = s.enabledMember

/-- The part held in reset: every block at its power-on values, the base address last sampled, the model's own counters and queue
(R184; logs 7, 8). -/
def State.heldInReset (base openChoices : Nat) (pending : List Instr) : State :=
  { State.powerOn 0 with inReset := true, baseAddress := base, openChoices := openChoices, pending := pending }

/-- While RESET_N is low the part is as `heldInReset` says. -/
abbrev State.ResetSound (s : State) : Prop :=
  s.inReset = true → s = State.heldInReset s.baseAddress s.openChoices s.pending

/-! ### One recompute of the budget, as a relation -/

/-- The budget of `t` is what one recompute makes of it after a cause that came upon the flags and the part notices of `s` and left the sessions
parked as `parked` says: U, the shares and the congested flag current (R20, R24, R30), at most one of the two parking actions, each exactly
when it is due (R21, R25, R27), PARKING and CONGESTION exactly where their flags have changed, and no other part notice. -/
def State.Recomputed (parked : SessionId → Bool) (s t : State) : Prop :=
  let started := fun k : SessionId => (t.session k).state.started
  let background := fun k : SessionId => started k && (t.session k).config.sessionClass == .background
  let total := ((allSessions.filter started).map fun k => (t.ladderOf k).bitrate 0).sum
  t.BudgetCurrent ∧
  (if s.parkingInForce = false ∧ (∃ k : SessionId, background k = true ∧ parked k = false) ∧ t.usable < total then
    t.parkingInForce = true ∧ ∀ k : SessionId, (t.session k).parked = (background k || parked k)
  else if s.parkingInForce = true ∧ total ≤ t.usable * 7 / 8 then
    t.parkingInForce = false ∧ ∀ k : SessionId, (t.session k).parked = false
  else t.parkingInForce = s.parkingInForce ∧ ∀ k : SessionId, (t.session k).parked = parked k) ∧
  t.partNotices = (s.partNotices ||| if t.parkingInForce = s.parkingInForce then 0 else 2)
    ||| if t.congested = s.congested then 0 else 1

/-- No recompute has been taken from `s` to `t`: U, the shares, the flags and the part notices stay, and the sessions are parked as `parked` says
(R22). -/
def State.BudgetKept (parked : SessionId → Bool) (s t : State) : Prop :=
  t.usable = s.usable ∧ t.parkingInForce = s.parkingInForce ∧ t.congested = s.congested ∧ t.partNotices = s.partNotices ∧
  ∀ k : SessionId, (t.session k).parked = parked k ∧ (t.session k).share = (s.session k).share

/-- One recompute where a condition holds, none where it does not. -/
def State.RecomputedIf (cause : Prop) [Decidable cause] (parked : SessionId → Bool) (s t : State) : Prop :=
  if cause then s.Recomputed parked t else s.BudgetKept parked t

/-- The parked flags of `s`, with that of one session as given. -/
def State.parkedBut (s : State) (i : SessionId) (parked : Bool) (k : SessionId) : Bool :=
  if k = i then parked else (s.session k).parked

/-- ATTN after a recompute that sets the only notices of its event: judged afresh where PARKING or CONGESTION is set, else as it was (R182). -/
def State.AttnFollows (s t : State) : Prop :=
  t.attn = if t.parkingInForce = s.parkingInForce ∧ t.congested = s.congested then s.attn else t.enabledMember

/-! ### The ladder rules, as relations -/

/-- Rung `k` of a ladder to be committed is faulty (R37, step 3). -/
def rungFaultAt (rungs : List Rung) (k : Nat) : Bool :=
  match rungs[k]? with
  | none => false
  | some g =>
    decide (g.bitrate < 32) || decide (100000 < g.bitrate) || decide (4320 < g.lines)
      || (if k = 0 then !g.enabled else (rungs[k - 1]?).any fun below => decide (g.bitrate ≤ below.bitrate))

/-- The rung record at a place of a staging buffer (R34, 11.5). -/
def Memory.rungAt (m : Memory) (k : Nat) : Rung where
  bitrate := beNat [m.read (16 * k), m.read (16 * k + 1), m.read (16 * k + 2), m.read (16 * k + 3)]
  lines := beNat [m.read (16 * k + 4), m.read (16 * k + 5)]
  profile := m.read (16 * k + 6)
  locator := BitVec.ofNat 16 (beNat [m.read (16 * k + 7), m.read (16 * k + 8)])
  enabled := m.read (16 * k + 9) != 0

/-- `r` is the highest enabled rung with bitrate at most `x`, or 0 where no enabled rung has a bitrate that low (R43, R100). -/
abbrev Ladder.IsHighestWithin (l : Ladder) (x r : Nat) : Prop :=
  (∃ g, l.rungs[r]? = some g ∧ g.enabled = true ∧ g.bitrate ≤ x ∧
    ∀ k h, r < k → l.rungs[k]? = some h → h.enabled = true → x < h.bitrate) ∨
  (r = 0 ∧ ∀ h ∈ l.rungs, h.enabled = true → x < h.bitrate)

/-- The remap of one reservation: the kind stays, and the index goes by its own old bitrate (R44, R190; log 24). -/
def Reservation.Remapped (old new : Ladder) : Reservation → Reservation → Prop
  | .unreserved, .unreserved => True
  | .pin r, .pin r' => new.IsHighestWithin (old.bitrate r) r'
  | .cap r, .cap r' => new.IsHighestWithin (old.bitrate r) r'
  | _, _ => False

/-- The remap of one session record with its SWITCHED notice bit (R43–R45, R190): `n` and `n'` are its notices before and after. -/
def Session.Remapped (old new : Ladder) (x y : Session) (n n' : BitVec 7) : Prop :=
  y = { x with
    currentRung := y.currentRung
    reservation := y.reservation
    dwell := y.dwell
    stats := y.stats
    parked := y.parked
    share := y.share } ∧
  x.reservation.Remapped old new y.reservation ∧
  match x.currentRung, y.currentRung with
  | none, none => y.dwell = x.dwell ∧ y.stats = x.stats ∧ n' = n
  | some k, some k' =>
    new.IsHighestWithin (old.bitrate k) k' ∧
      if new.bitrate k' = old.bitrate k then y.dwell = x.dwell ∧ y.stats = x.stats ∧ n' = n
      else
        y.dwell = 0 ∧ n' = n ||| 4 ∧
          y.stats =
            if old.bitrate k < new.bitrate k' then { x.stats with upSwitches := min 65535 (x.stats.upSwitches + 1) }
            else { x.stats with downSwitches := min 65535 (x.stats.downSwitches + 1) }
  | _, _ => False

/-- `t` is `s` after a ladder has replaced the one in a slot and the request has been answered: the slot, the remap of every session bound
to it and not CLOSED, one recompute exactly where rung 0's bitrate has changed under a started one, ACCEPTED NORMAL, and nothing else
(R38, R43–R47). -/
def State.LadderReplaced (l : LadderId) (new : Ladder) (s t : State) : Prop :=
  let bound := fun i : SessionId => (s.session i).config.ladderSlot = l ∧ (s.session i).state ≠ .closed
  (∀ k : LadderId, t.ladder k = if k = l then new else s.ladder k) ∧
  t = { s with
    ladders := t.ladders
    sessions := t.sessions
    sessionNotices := t.sessionNotices
    usable := t.usable
    parkingInForce := t.parkingInForce
    congested := t.congested
    partNotices := t.partNotices
    attn := t.attn
    response := some ⟨.normal, []⟩
    controlFrame := none } ∧
  (∀ i : SessionId,
    if bound i then (s.session i).Remapped (s.ladder l) new (t.session i) (s.noticesOf i) (t.noticesOf i)
    else t.noticesOf i = s.noticesOf i ∧
      t.session i = { s.session i with parked := (t.session i).parked, share := (t.session i).share }) ∧
  s.RecomputedIf ((s.ladder l).bitrate 0 ≠ new.bitrate 0 ∧ ∃ i, bound i ∧ (s.session i).state.started = true)
    (fun i => (s.session i).parked) t

/-! ### Entries leaving a ledger, and the configuration record, as relations -/

/-- A slot's reference names an entry of session `i` that meets a condition. -/
def State.namesLeaving (s : State) (i : SessionId) (p : Entry → Bool) (r : EntryRef) : Bool :=
  r.session == i && (s.session i).ledger.any fun e => e.segment == r.segment && p e

/-- From `s` to `t` the entries of session `i` that meet `p` have left their ledger for the pool: QUEUED orders withdrawn, fetches under way
cancelled with their copies kept and their tags at the tail of the cancel list in an order the spec leaves open (log 3), back-references to
them cleared (R86, R121, R122). -/
def State.EntriesLeave (i : SessionId) (p : Entry → Bool) (s t : State) : Prop :=
  (∀ j : SlotId, t.slot j = match s.slot j with
    | .free => .free
    | .queued tag r => if s.namesLeaving i p r then .free else .queued tag r
    | .taken tag r elapsed limit =>
      if s.namesLeaving i p r then .cancelling tag none (s.keptCopies r) false else .taken tag r elapsed limit
    | .cancelling tag none kept owed => .cancelling tag none kept owed
    | .cancelling tag (some r) kept owed => .cancelling tag (if s.namesLeaving i p r then none else some r) kept owed) ∧
  t.orderQueue = s.orderQueue.filter (fun j => (t.slot j).isQueued) ∧
  (∃ tags, t.cancelList = s.cancelList ++ tags ∧
    tags.Perm (allSlots.filterMap fun j => match s.slot j with
      | .taken tag r _ _ => if s.namesLeaving i p r then some tag else none
      | _ => none)) ∧
  t.poolFree = s.poolFree + ((s.session i).ledger.filter p).length

/-- The configuration record after a CONFIGURE: the fields its mask names hold the carried values clamped to their ranges, the others what
they held (R53, 11.2, 11.5). -/
def SessionConfig.ConfiguredBy (payload : List Byte) (c d : SessionConfig) : Prop :=
  let named := fun n : Nat => (beField payload 1 3).testBit (n - 1)
  let value := fun offset size : Nat => beField payload (4 + offset) size
  let within := fun lo hi v : Nat => max lo (min hi v)
  d.ladderSlot.val = (if named 1 then value 0 1 else c.ladderSlot.val) ∧
  d.sessionClass.code = (if named 2 then value 1 1 else c.sessionClass.code) ∧
  d.weight = (if named 3 then within 1 15 (value 2 1) else c.weight) ∧
  d.depthLimit = (if named 4 then within 2 16 (value 3 1) else c.depthLimit) ∧
  d.pipeline.depth = (if named 5 then value 4 1 else c.pipeline.depth) ∧
  d.policy.code = (if named 6 then value 5 1 else c.policy.code) ∧
  d.retryLimit = (if named 7 then within 0 7 (value 6 1) else c.retryLimit) ∧
  d.startLevel = (if named 8 then within 0 60000 (value 7 4) else c.startLevel) ∧
  d.restartLevel = (if named 9 then within 0 60000 (value 11 4) else c.restartLevel) ∧
  d.panicLevel = (if named 10 then within 0 60000 (value 15 4) else c.panicLevel) ∧
  d.steadyLevel = (if named 11 then within 0 60000 (value 19 4) else c.steadyLevel) ∧
  d.fullLevel = (if named 12 then within 0 60000 (value 23 4) else c.fullLevel) ∧
  d.hysteresis = (if named 13 then within 500 30000 (value 27 4) else c.hysteresis) ∧
  d.startCap = (if named 14 then within 0 7 (value 31 1) else c.startCap) ∧
  d.dwellSetting = (if named 15 then within 0 15 (value 32 1) else c.dwellSetting) ∧
  d.upMargin = (if named 16 then within 256 512 (value 33 2) else c.upMargin) ∧
  d.abandonGuard = (if named 17 then within 0 10000 (value 35 2) else c.abandonGuard) ∧
  d.firstSegment = (if named 18 then value 37 4 else c.firstSegment) ∧
  d.lastSegment =
    (if named 19 then (if beField payload 45 1 = 0 then none else some (value 42 4)) else c.lastSegment)

/-- The fetch gate after an evaluation at a committed_ms (R72). -/
def SessionConfig.gateAt (c : SessionConfig) (committed : Nat) (gate : Bool) : Bool :=
  if c.fullLevel ≤ committed then false else if committed ≤ c.fullLevel - c.hysteresis then true else gate

/-! ### What follows a change of a ledger, and the abandonment check, as relations -/

/-- A session whose ledger has changed from `before` (with its record `x` otherwise, and its notices `n`) as what follows in the same event
leaves it: the taint and TAINTED, the gate where committed_ms has changed, the start or restart test and PLAYOUT-READY where buffered_ms has
(R94, R95, R72, R59). -/
def Session.Settled (before : List Entry) (x y : Session) (n n' : BitVec 7) : Prop :=
  let short := x.ledger.any (·.short)
  let running := decide (bufferedMs x.ledger ≠ bufferedMs before)
    && ((x.state == .priming && decide (x.config.startLevel ≤ bufferedMs x.ledger))
      || (x.state == .starved && decide (x.config.restartLevel ≤ bufferedMs x.ledger)))
  y = { x with
    tainted := short
    gateOpen := if committedMs x.ledger = committedMs before then x.gateOpen
      else x.config.gateAt (committedMs x.ledger) x.gateOpen
    state := if running then .running else x.state } ∧
  n' = (n ||| if short && !x.tainted then 64 else 0) ||| if running then 1 else 0

/-- The ledger of a session with the entry of one segment number replaced. -/
def Session.withEntry (x : Session) (segment : Nat) (e : Entry) : Session :=
  { x with ledger := x.ledger.map fun e' => if e'.segment = segment then e else e' }

/-- An ARRIVAL on an entry's fetch abandons it, `arrived` being its arrived bytes with that ARRIVAL's counted (R110, R111). -/
def State.AbandonmentDue (s : State) (i : SessionId) (e : Entry) (arrived : Nat) : Prop :=
  let x := s.session i
  let buffered := bufferedMs x.ledger
  e.state = .active ∧ blockingEntry x.ledger = some e ∧ x.state = .running ∧ x.parked = false ∧
    (buffered < x.config.panicLevel ∨ buffered < x.config.steadyLevel) ∧
    (s.ladderOf i).bitrate 0 < e.issue.bitrate ∧
    arrived * 4 < e.issue.expected * 3 ∧
    (buffered : Int) - x.config.abandonGuard < (((e.issue.expected - arrived) * 8 + (x.share - 1)) / x.share : Nat)

/-! ### The arbiter and the selection, as relations -/

/-- `r` is the highest enabled rung at or below index `c`, or 0 where none is (R98). -/
abbrev Ladder.IsHighestUpTo (l : Ladder) (c r : Nat) : Prop :=
  (r ≤ c ∧ (l.rungs[r]?).any (·.enabled) = true ∧ ∀ k g, r < k → k ≤ c → l.rungs[k]? = some g → g.enabled = false) ∨
  (r = 0 ∧ ∀ k g, k ≤ c → l.rungs[k]? = some g → g.enabled = false)

/-- `r` is the lowest enabled rung above index `k` (R104). -/
abbrev Ladder.IsLowestAbove (l : Ladder) (k r : Nat) : Prop :=
  k < r ∧ (l.rungs[r]?).any (·.enabled) = true ∧ ∀ n g, k < n → n < r → l.rungs[n]? = some g → g.enabled = false

/-- A WAITING entry that is due (R124, R155). -/
abbrev Entry.DueAt (now : Nat) (e : Entry) : Prop := e.state = .waiting ∧ e.notBefore.getD 0 ≤ now

/-- A candidate of the order arbiter (R124, R90). -/
def State.Candidate (s : State) (i : SessionId) : Prop :=
  let x := s.session i
  x.state.started = true ∧ x.parked = false ∧
    (x.ledger.filter fun e => e.state == .queued || e.state == .active).length < x.config.pipeline.depth ∧
    ((∃ e ∈ x.ledger, e.DueAt s.now) ∨
      (x.gateOpen = true ∧ x.ledger.length < x.config.depthLimit ∧ 0 < s.poolFree ∧
        ((allSessions.filter fun k => k != i && (s.session k).state.started).map
          fun k => 2 - (s.session k).ledger.length).sum < s.poolFree))

/-- An urgent session: STARVED, or RUNNING in zone PANIC (R126). -/
def Session.UrgentNow (x : Session) : Prop :=
  x.state = .starved ∨ (x.state = .running ∧ bufferedMs x.ledger < x.config.panicLevel)

/-- How far a session stands from the one after the last granted, counting upward and wrapping (R126). -/
def roundRobinPlace (last i : SessionId) : Nat := (i.val + 5 - last.val) % 6

/-- The session the arbiter chooses: a candidate, urgent if any is, and of those the first in the round (R126). -/
def State.Chosen (s : State) (i : SessionId) : Prop :=
  s.Candidate i ∧ ∀ k, s.Candidate k →
    ((s.session k).UrgentNow → (s.session i).UrgentNow) ∧
    (((s.session k).UrgentNow ↔ (s.session i).UrgentNow) →
      roundRobinPlace s.lastGranted i ≤ roundRobinPlace s.lastGranted k)

/-- An event of the part's own is due: the window has reached its length while the occupancy condition holds (R4); a watchdog has reached its
limit in force, or its expiry is owed (log 23), while the link is not paused (R135, R136); a slot is FREE and there is a candidate (R125). -/
def State.OwnEventDue (s : State) : Instr → Prop
  | .windowExpiry => s.occupied = true ∧ s.meter.windowLength ≤ s.meter.windowElapsed
  | .stallWatchdogExpiry j => s.meter.paused = false ∧
      ((∃ tag r elapsed limit, s.slot j = .taken tag r elapsed limit ∧ limit ≤ elapsed) ∨
        ∃ tag back kept, s.slot j = .cancelling tag back kept true)
  | .grant => (∃ j : SlotId, s.slot j = .free) ∧ ∃ i : SessionId, s.Candidate i
  | _ => False

/-- The tag a grant gives: the first, counting upward from the counter and wrapping from 255 to 1, that no slot holds (R120). -/
def State.FirstFreeTag (s : State) (tag : Nat) : Prop :=
  ∃ steps < 255, tag = (s.tagCounter - 1 + steps) % 255 + 1 ∧ (∀ j : SlotId, (s.slot j).tag? ≠ some tag) ∧
    ∀ n < steps, ∃ j : SlotId, (s.slot j).tag? = some ((s.tagCounter - 1 + n) % 255 + 1)

/-- The session record after its current rung has taken a selection's result, with its notices (R106). -/
def Session.switchedTo (x : Session) (r : Nat) : Session :=
  match x.currentRung with
  | none => { x with currentRung := some r }
  | some k =>
    if k = r then x
    else
      { x with
        currentRung := some r
        dwell := 0
        stats :=
          if k < r then { x.stats with upSwitches := min 65535 (x.stats.upSwitches + 1) }
          else { x.stats with downSwitches := min 65535 (x.stats.downSwitches + 1) } }

/-- The notice a selection's result sets: SWITCHED where the current rung was present and another (R106). -/
def Session.switchNotice (x : Session) (r : Nat) : BitVec 7 := if x.currentRung = none ∨ x.currentRung = some r then 0 else 4

/-- The issue copies and expected bytes an issue takes from a rung of the ladder (R77, R109). -/
def Ladder.Issues (l : Ladder) (r : Nat) (c : Issue) : Prop :=
  ∃ g, l.rungs[r]? = some g ∧ c = ⟨r, g.bitrate, g.profile, g.lines, g.locator, l.nominal, g.bitrate * l.nominal / 8⟩

/-! ### Frames -/

/-- What a recompute may change: U, the flags, the parked flags and shares, the part notices and ATTN (R21). -/
def State.budgetFrom (s t : State) : State :=
  { s with
    usable := t.usable
    parkingInForce := t.parkingInForce
    congested := t.congested
    sessions := t.sessions
    partNotices := t.partNotices
    attn := t.attn }

/-- A session record but for its parked flag and its share. -/
def Session.sameButBudget (x y : Session) : Prop := y = { x with parked := y.parked, share := y.share }

end Sys2Proof.Machine
end

