-- ==== Sys2Proof/Certificates/Slice0/Obligations.lean ====
section
/-! DEFINITION. The statements for the provers: what the numbered rules of spec/ say the commands and the part do, for every state and every
operand. Where a statement's `t` is written as an update of `s` by its own fields, every field not named is unchanged. -/

open Sys2Proof Sys2Proof.Machine

/-! ### The machine -/

/-- Step takes the command at the front of the queue and answers what `exec` answers with the queue's rest. -/
def Obligations.StepRunsTheCommandInFront : Prop :=
  ∀ (c : Instr) (rest : List Instr) (s : State),
    s.pending = c :: rest → step s = exec c { s with pending := rest }

/-- The model's choices of logs 1 and 2: on an empty queue the part takes an own event that is due, an open one of several, and lets one
millisecond pass when none is due: time advances by one, the window's elapsed time by one while the occupancy condition holds, each running
watchdog by one while the link is not paused (R1, R135); held in reset it idles (log 8). Due are the expiry of a window at its length while
the occupancy condition holds (R4), that of a watchdog at its limit (R135, R136) or owed (log 23) while the link is not paused, and a GRANT
where a slot is FREE and there is a candidate (R125). -/
def Obligations.IdleTakesADueEventOrOneMillisecond : Prop :=
  ∀ s : State, s.pending = [] →
    (s.inReset = true → step s = .next s) ∧
    (s.inReset = false →
      (∀ e, s.OwnEventDue e → (∀ e', s.OwnEventDue e' → e' = e) → step s = exec e s) ∧
      (∀ e₁ e₂, s.OwnEventDue e₁ → s.OwnEventDue e₂ → e₁ ≠ e₂ →
        ∃ e, s.OwnEventDue e ∧ step s = exec e { s with openChoices := s.openChoices + 1 }) ∧
      ((∀ e, ¬s.OwnEventDue e) →
        ∃ t, step s = .next t ∧
          t = { s with
            now := s.now + 1
            slots := t.slots
            meter := { s.meter with windowElapsed := s.meter.windowElapsed + if s.occupied then 1 else 0 } } ∧
          (∀ j : SlotId,
            t.slot j = match s.slot j with
              | .taken tag r elapsed limit => .taken tag r (elapsed + if s.meter.paused then 0 else 1) limit
              | x => x)))

/-- Every command that a port can deliver answers a next state, and only `step` touches the queue. The model's choice of log 15: a term that
spells another command, or none, is refused by name. -/
def Obligations.EveryCommandAnswersANextStateAndNoOtherTerm : Prop :=
  (∀ (c : Instr) (s : State), c.wf = true → ∃ t, exec c s = .next t ∧ t.pending = s.pending) ∧
  ((∀ (code : Byte) (payload : List Byte) (s : State), (1 ≤ code.toNat ∧ code.toNat ≤ 0x18) →
     exec (.unknownRequest code payload) s = .refused (.notACommand "UNKNOWN_REQUEST")) ∧
   (∀ (code : Byte) (s : State), (1 ≤ code.toNat ∧ code.toNat ≤ 6) →
     exec (.badRecord (.unknownCode code)) s = .refused (.notACommand "BAD_RECORD")) ∧
   (∀ (tag result : Byte) (s : State), (1 ≤ result.toNat ∧ result.toNat ≤ 5) →
     exec (.badRecord (.unknownResult tag result)) s = .refused (.notACommand "BAD_RECORD")) ∧
   (∀ (address : PlayoutAddress) (e1 e0 : Byte) (s : State),
     exec (.malformedTransfer address []) s = .refused (.notACommand "MALFORMED_TRANSFER") ∧
     exec (.malformedTransfer address [1]) s = .refused (.notACommand "MALFORMED_TRANSFER") ∧
     exec (.malformedTransfer address [2, e1, e0]) s = .refused (.notACommand "MALFORMED_TRANSFER")))

/-- The bytes of a control request or of a fetch record decode to it whatever bytes follow in the select period, and the bytes of a playout
write transfer decode to it: no bit of a command is lost on its port. Whatever bytes a port brings, what they decode to is a command that
reaches the part. -/
def Obligations.PortBytesAndCommandsAgree : Prop :=
  (∀ c : Instr, c.wf = true →
     (∀ bytes, encodeControlFrame c = some bytes → ∀ more, decodeControlFrame (bytes ++ more) = some c) ∧
     (∀ bytes, encodeFetchRecord c = some bytes → ∀ more, decodeFetchRecord (bytes ++ more) = some c) ∧
     (∀ address bytes, encodePlayoutWrite c = some (address, bytes) → decodePlayoutWrite address bytes = some c) ∧
     (match c with
       | .powerOn _ | .resetNFalls | .controlFrameDiscard | .fetchRecordDiscard | .playoutReadTransfer _ _ => True
       | .windowExpiry | .stallWatchdogExpiry _ | .notBeforeReached _ _ | .grant => True
       | _ => (encodeControlFrame c).isSome ∨ (encodeFetchRecord c).isSome ∨ (encodePlayoutWrite c).isSome)) ∧
  ((∀ bytes c, decodeControlFrame bytes = some c → c.wf = true) ∧
   (∀ bytes c, decodeFetchRecord bytes = some c → c.wf = true) ∧
   (∀ address bytes c, decodePlayoutWrite address bytes = some c → c.wf = true))

/-! ### Resets -/

/-- The Link Meter at power-on, while RESET_N is low and when it is released (R13). That the slots are FREE, and the occupancy condition does
not hold, while RESET_N is still low is the model's choice of log 7: R13 and R140 say it of power-on. -/
def Obligations.LinkMeterAtPowerOn : Prop :=
  ∀ (straps : BitVec 3) (s : State), ∃ t u,
    exec .resetNFalls s = .next t ∧ exec (.powerOn straps) t = .next u ∧ t.inReset = true ∧ u.inReset = false ∧
    ∀ v ∈ [t, u],
      v.params.windowLength = 100 ∧ v.params.thinThreshold = 4096 ∧ v.params.initialEstimate = 2000 ∧
      v.meter.fast = 2000 ∧ v.meter.slow = 2000 ∧ v.meter.capacity = 2000 ∧
      v.meter.windowBytes = 0 ∧ v.meter.windowElapsed = 0 ∧ v.meter.windowLength = 100 ∧
      v.meter.paused = false ∧ v.meter.lastSample = none ∧
      v.meter.samples = 0 ∧ v.meter.halvings = 0 ∧ v.meter.thinWindows = 0 ∧
      (∀ j : SlotId, v.slot j = .free) ∧ v.occupied = false

/-- POWER_ON leaves every block at its power-on values and the base address the straps select, whatever the state before; so does RESET_N_FALLS,
but that RESET_N is low and the base address is the one last sampled (the model's choices of logs 5, 7 and 9: the timebase at 0, every block
at power-on values while the pin is low, and a POWER_ON that finds the part running). -/
def Obligations.PowerOnReset : Prop :=
  ∀ (straps : BitVec 3) (s : State), ∃ t u,
    exec (.powerOn straps) s = .next t ∧ exec .resetNFalls s = .next u ∧
    t.inReset = false ∧ t.baseAddress = 32 + 8 * straps.toNat ∧ u.inReset = true ∧ u.baseAddress = s.baseAddress ∧
    ∀ v ∈ [t, u],
      v.params = ⟨100, 4096, 2000, 218, 0, 1500, 250, 4000⟩ ∧
      v.meter = ⟨2000, 2000, 2000, 0, 0, 100, false, none, 0, 0, 0⟩ ∧
      v.usable = 1703 ∧ v.parkingInForce = false ∧ v.congested = false ∧
      (∀ l : LadderId, v.ladder l = ⟨0, []⟩) ∧
      (∀ k : Nat, v.stagingA.read k = 0 ∧ v.stagingB.read k = 0) ∧
      (∀ i : SessionId, v.session i =
        { state := .closed, held := false, parked := false, gateOpen := true, tainted := false
          config := ⟨0, .viewed, 4, 8, .conservative, .hold, 3, 4000, 4000, 2000, 8000, 20000, 4000, 2, 3, 294, 1000, 0, none⟩
          currentRung := none, dwell := 0, reservation := .unreserved, nextSegment := 0
          stats := ⟨0, 0, 0, 0, 0, 0, 0, 0⟩, share := 0, ledger := [] }) ∧
      v.poolFree = 48 ∧
      (∀ j : SlotId, v.slot j = .free) ∧ v.tagCounter = 1 ∧ v.orderQueue = [] ∧ v.cancelList = [] ∧ v.lastGranted = 5 ∧
      (∀ c : ClientId, v.client c = ⟨none, false, false, none, .noAnswer⟩) ∧
      v.controlFrame = none ∧ v.response = none ∧
      (∀ i : SessionId, v.noticesOf i = 0) ∧ v.partNotices = 0 ∧ v.noticeEnable = 0xFFF ∧ v.attn = false ∧
      v.fetchRecord = [] ∧ v.fetchAnswer = none ∧ v.playoutWrite = none ∧ v.playoutOut = [] ∧ v.now = 0 ∧
      v.openChoices = s.openChoices ∧ v.pending = s.pending

/-- RESET_PART sets every block to its RESET-PART values: what it resets, with the link parameters, the ladders, the staging buffers, the enable
mask and the base address kept, and nothing else changed but the response; the timebase, the model's counter of open choices and what is
being shifted on the other two ports are kept too (the model's choices of logs 2, 5 and 11). -/
def Obligations.ResetPart : Prop :=
  ∀ s : State, s.inReset = false → ∃ t,
    exec (.resetPart []) s = .next t ∧
    t = { s with
      meter := ⟨s.params.initialEstimate, s.params.initialEstimate, s.params.initialEstimate, 0, 0, s.params.windowLength,
        false, none, 0, 0, 0⟩
      usable := s.params.initialEstimate * s.params.safety / 256 - s.params.headroom
      parkingInForce := false
      congested := false
      sessions := t.sessions
      poolFree := 48
      slots := t.slots
      tagCounter := 1
      orderQueue := []
      cancelList := []
      lastGranted := 5
      clients := t.clients
      sessionNotices := t.sessionNotices
      partNotices := 0
      attn := false
      response := some ⟨.normal, []⟩
      controlFrame := none } ∧
    (∀ i : SessionId, t.session i =
      { state := .closed, held := false, parked := false, gateOpen := true, tainted := false
        config := ⟨0, .viewed, 4, 8, .conservative, .hold, 3, 4000, 4000, 2000, 8000, 20000, 4000, 2, 3, 294, 1000, 0, none⟩
        currentRung := none, dwell := 0, reservation := .unreserved, nextSegment := 0
        stats := ⟨0, 0, 0, 0, 0, 0, 0, 0⟩, share := 0, ledger := [] }) ∧
    (∀ j : SlotId, t.slot j = .free) ∧
    (∀ c : ClientId, t.client c = ⟨none, false, false, none, .noAnswer⟩) ∧
    (∀ i : SessionId, t.noticesOf i = 0)

/-- While RESET_N is low no frame, record or transfer is taken, CMISO and FMISO are undriven (R184), and no event of the part's own changes
anything (the model's choice of log 8); every step keeps the part, while RESET_N is low, as it is held in reset (logs 7 and 8). -/
def Obligations.NothingIsTakenWhileResetIsLow : Prop :=
  (∀ (c : Instr) (s : State), s.inReset = true → c.wf = true →
     c ≠ .resetNFalls → (∀ straps, c ≠ .powerOn straps) → c ≠ .controlFrameDiscard → c ≠ .fetchRecordDiscard →
     exec c s = .next s) ∧
  (∀ (s : State) (count : Nat), s.inReset = true → s.controlOut count = none ∧ s.fetchOut count = none) ∧
  (∀ s t : State, s.ResetSound → step s = .next t → t.ResetSound)

/-- The state after reset is sound in every sense of Sys2Proof/Safety.lean. -/
def Obligations.ResetIsSound : Prop :=
  State.reset.LinkInRange ∧ State.reset.BudgetCurrent ∧ State.reset.ParkingConsistent ∧ State.reset.NoParkingDue ∧ State.reset.LaddersValid ∧
  State.reset.StagingSound ∧ State.reset.RungsWithinLadder ∧ State.reset.SessionsInRange ∧ State.reset.OpenUnheld ∧
  State.reset.PoolConserved ∧ State.reset.LedgersSound ∧ State.reset.NoneWaitingWhileWinding ∧ State.reset.TaintFollows ∧
  State.reset.TagsSound ∧ State.reset.FetchesAgree ∧ State.reset.BindingsSound ∧ State.reset.AttnJudged ∧
  State.reset.ResetSound

/-! ### Link parameters, Link Meter, Budget Allocator -/

/-- SET_LINK stores the eight values clamped to their ranges and answers how many were clamped. Nothing else changes but what a recompute
writes, and that only where the stored safety factor or headroom changes; U then follows the new values (R15, R19, R20, R134, R142). -/
def Obligations.SetLinkStoresClampedParameters : Prop :=
  ∀ (payload : List Byte) (s : State), s.inReset = false → payload.length = 20 →
    ∃ t, exec (.setLink payload) s = .next t ∧
      t.params =
        { windowLength := max 20 (min 1000 (beField payload 0 2))
          thinThreshold := beField payload 2 2
          initialEstimate := max 64 (min 1000000 (beField payload 4 4))
          safety := max 128 (min 256 (beField payload 8 2))
          headroom := min 100000 (beField payload 10 4)
          stallLimit := max 200 (min 10000 (beField payload 14 2))
          retryInterval := max 50 (min 5000 (beField payload 16 2))
          holdTimeout := max 500 (min 60000 (beField payload 18 2)) } ∧
      (∃ n, t.response = some ⟨if n = 0 then .normal else .clamped n, []⟩ ∧
        n = (if t.params.windowLength = beField payload 0 2 then 0 else 1)
          + (if t.params.initialEstimate = beField payload 4 4 then 0 else 1)
          + (if t.params.safety = beField payload 8 2 then 0 else 1)
          + (if t.params.headroom = beField payload 10 4 then 0 else 1)
          + (if t.params.stallLimit = beField payload 14 2 then 0 else 1)
          + (if t.params.retryInterval = beField payload 16 2 then 0 else 1)
          + (if t.params.holdTimeout = beField payload 18 2 then 0 else 1)) ∧
      t = { s with
        params := t.params
        usable := t.usable
        parkingInForce := t.parkingInForce
        congested := t.congested
        sessions := t.sessions
        partNotices := t.partNotices
        attn := t.attn
        response := t.response
        controlFrame := none } ∧
      (∀ i : SessionId, t.session i =
        { s.session i with parked := (t.session i).parked, share := (t.session i).share }) ∧
      (if t.params.safety = s.params.safety ∧ t.params.headroom = s.params.headroom then
        t = { s with params := t.params, response := t.response, controlFrame := none }
      else s.Recomputed (fun k => (s.session k).parked) t ∧ s.AttnFollows t ∧
        t.usable = s.meter.capacity * t.params.safety / 256 - t.params.headroom)

/-- READ_LINK returns its 62 bytes, each field the state's (its low bytes: the ranges of `State.LinkInRange` fit), and changes nothing but the
response (R18, R32, R141, R142, 11.2). -/
def Obligations.ReadLinkReturnsTheLink : Prop :=
  ∀ s : State, s.inReset = false →
    ∃ p, exec (.readLink []) s = .next { s with response := some ⟨.normal, p⟩, controlFrame := none } ∧ p.length = 62 ∧
      (∀ row ∈ [(0, 2, s.params.windowLength), (2, 2, s.params.thinThreshold), (4, 4, s.params.initialEstimate),
          (8, 4, s.meter.fast), (12, 4, s.meter.slow), (16, 4, s.meter.capacity), (20, 4, s.meter.lastSample.getD 0),
          (24, 2, s.meter.samples), (26, 2, s.meter.halvings), (28, 2, s.meter.thinWindows),
          (30, 2, s.meter.windowLength), (32, 2, s.meter.windowElapsed), (34, 4, s.meter.windowBytes),
          (38, 2, s.params.safety), (40, 4, s.params.headroom), (44, 4, s.usable),
          (48, 2, s.params.stallLimit), (50, 1, s.tagCounter),
          (51, 1, (allSlots.filter fun j => match s.slot j with | .free => true | _ => false).length),
          (52, 1, (allSlots.filter fun j => match s.slot j with | .queued _ _ => true | _ => false).length),
          (53, 1, (allSlots.filter fun j => match s.slot j with | .taken _ _ _ _ => true | _ => false).length),
          (54, 1, (allSlots.filter fun j => match s.slot j with | .cancelling _ _ _ _ => true | _ => false).length),
          (55, 1, s.cancelList.length),
          (56, 2, s.params.retryInterval), (58, 2, s.params.holdTimeout), (61, 1, 0)],
        beField p row.1 row.2.1 = row.2.2 % 256 ^ row.2.1) ∧
      (p.getD 60 0).getLsbD 0 = s.meter.paused ∧ (p.getD 60 0).getLsbD 1 = s.occupied ∧
      (p.getD 60 0).getLsbD 2 = s.congested ∧ (p.getD 60 0).getLsbD 3 = s.parkingInForce ∧
      (p.getD 60 0).toNat < 16

/-- A recompute gives U from the capacity estimate, the safety factor and the headroom, takes at most one of the two parking actions, each
exactly when it is due (R25, R27), then gives every share from the sessions as that step leaves them and sets the congested flag with its
notice (R30); ATTN is judged afresh where a notice is set, the other notices stay, and nothing else changes. -/
def Obligations.RecomputeFollowsItsSteps : Prop :=
  (∀ s : State, let t := s.recompute
     t.usable = s.meter.capacity * s.params.safety / 256 - s.params.headroom ∧
     t = { s with
       usable := t.usable
       parkingInForce := t.parkingInForce
       congested := t.congested
       sessions := t.sessions
       partNotices := t.partNotices
       attn := t.attn } ∧
     (∀ i : SessionId, t.session i =
       { s.session i with parked := (t.session i).parked, share := (t.session i).share }) ∧
     (∀ i : SessionId,
       let holding := allSessions.filter fun k => (t.session k).state.started && !(t.session k).parked
       let floor := fun k : SessionId => ((t.ladderOf k).rungs.map (·.bitrate)).headD 0
       let floors := (holding.map floor).sum
       let weights := (holding.map fun k => (t.session k).config.weight).sum
       (t.session i).share =
         if i ∈ holding then
           if floors ≤ t.usable then floor i + (t.usable - floors) * (t.session i).config.weight / weights else floor i
         else 0) ∧
     t.congested = decide (t.usable <
       ((allSessions.filter fun k => (t.session k).state.started && !(t.session k).parked
           && (t.session k).config.sessionClass == .viewed).map
         fun k => ((t.ladderOf k).rungs.map (·.bitrate)).headD 0).sum) ∧
     t.hasPartNotice .congestion = (s.hasPartNotice .congestion || (t.congested != s.congested)) ∧
     (∀ k, 2 ≤ k → t.partNotices.getLsbD k = s.partNotices.getLsbD k) ∧
     t.attn = (if t.parkingInForce = s.parkingInForce ∧ t.congested = s.congested then s.attn else t.enabledMember) ∧
     (s.attn = s.enabledMember → t.attn = t.enabledMember)) ∧
  (∀ s : State, let t := s.recompute
     let total := ((allSessions.filter fun k => (s.session k).state.started).map
       fun k => ((s.ladderOf k).rungs.map (·.bitrate)).headD 0).sum
     let background := fun k : SessionId => (s.session k).state.started && (s.session k).config.sessionClass == .background
     if s.parkingInForce = false ∧ (∃ k : SessionId, background k ∧ (s.session k).parked = false) ∧ t.usable < total then
       t.parkingInForce = true ∧ t.hasPartNotice .parking = true ∧
         ∀ i : SessionId, (t.session i).parked = (background i || (s.session i).parked)
     else if s.parkingInForce = true ∧ total ≤ t.usable * 7 / 8 then
       t.parkingInForce = false ∧ t.hasPartNotice .parking = true ∧ ∀ i : SessionId, (t.session i).parked = false
     else
       t.parkingInForce = s.parkingInForce ∧ t.hasPartNotice .parking = s.hasPartNotice .parking ∧
         ∀ i : SessionId, (t.session i).parked = (s.session i).parked)

/-- WINDOW_EXPIRY on a thin window: counted, a new window opened, nothing else (R4, R5, R2). -/
def Obligations.ThinWindowExpires : Prop :=
  ∀ s : State, s.inReset = false → s.occupied = true → s.meter.windowLength ≤ s.meter.windowElapsed →
    s.meter.windowBytes < s.params.thinThreshold →
    exec .windowExpiry s = .next
      { s with meter := { s.meter with
          thinWindows := min 65535 (s.meter.thinWindows + 1)
          windowBytes := 0
          windowElapsed := 0
          windowLength := s.params.windowLength } }

/-- WINDOW_EXPIRY with a sample: the sample, both estimates moved from their values before it, C the lesser, the counts, the new window; one
recompute with its parking step exactly where C differs (R6, R7, R8, R22). By the model's choice of log 4 a WINDOW_EXPIRY before its time
changes nothing. -/
def Obligations.WindowYieldsASample : Prop :=
  ∀ s : State, s.inReset = false →
    (¬(s.occupied = true ∧ s.meter.windowLength ≤ s.meter.windowElapsed) → exec .windowExpiry s = .next s) ∧
    (s.occupied = true → s.meter.windowLength ≤ s.meter.windowElapsed → s.params.thinThreshold ≤ s.meter.windowBytes →
      ∃ t, exec .windowExpiry s = .next t ∧
        t.meter.lastSample = some (min 1000000 (s.meter.windowBytes * 8 / s.meter.windowLength)) ∧
        (∀ sample ∈ t.meter.lastSample,
          (t.meter.fast : Int) = max 64 (min 1000000 (s.meter.fast + ((sample : Int) - s.meter.fast).tdiv 4)) ∧
          (t.meter.slow : Int) = max 64 (min 1000000 (s.meter.slow + ((sample : Int) - s.meter.slow).tdiv 16))) ∧
        t.meter = { s.meter with
          fast := t.meter.fast
          slow := t.meter.slow
          capacity := min t.meter.fast t.meter.slow
          lastSample := t.meter.lastSample
          samples := min 65535 (s.meter.samples + 1)
          windowBytes := 0
          windowElapsed := 0
          windowLength := s.params.windowLength } ∧
        t = { s with
          meter := t.meter
          usable := t.usable
          parkingInForce := t.parkingInForce
          congested := t.congested
          sessions := t.sessions
          partNotices := t.partNotices
          attn := t.attn } ∧
        (∀ i : SessionId, t.session i =
          { s.session i with parked := (t.session i).parked, share := (t.session i).share }) ∧
        (if t.meter.capacity = s.meter.capacity then t = { s with meter := t.meter }
        else s.Recomputed (fun k => (s.session k).parked) t ∧ s.AttnFollows t ∧
          t.usable = t.meter.capacity * s.params.safety / 256 - s.params.headroom))

/-! ### Ladder Store -/

/-- LOAD writes its data bytes in order from the starting offset, going on at 0 after 127, the later byte winning; the other buffer and
everything but the response stays (R35), or the request is refused and nothing is written (R36). -/
def Obligations.LoadWritesTheBuffer : Prop :=
  ∀ (buffer offset : Byte) (data : List Byte) (s : State), s.inReset = false → s.StagingSound → data.length ≤ 248 →
    (1 < buffer.toNat ∨ 127 < offset.toNat →
      exec (.load (buffer :: offset :: data)) s
        = .next { s with response := some ⟨.index 0, []⟩, controlFrame := none }) ∧
    (buffer.toNat ≤ 1 → offset.toNat ≤ 127 →
      ∃ t, exec (.load (buffer :: offset :: data)) s = .next t ∧
        t = { s with
          stagingA := if buffer = 0 then t.stagingA else s.stagingA
          stagingB := if buffer = 1 then t.stagingB else s.stagingB
          response := some ⟨.normal, []⟩
          controlFrame := none } ∧
        ∀ k < 128,
          (if buffer = 0 then t.stagingA else t.stagingB).read k =
            match ((List.range data.length).filter fun n => (offset.toNat + n) % 128 = k).getLast? with
            | some n => data.getD n 0
            | none => (if buffer = 0 then s.stagingA else s.stagingB).read k)

/-- A COMMIT that passes every check replaces the ladder in its slot by the rungs read from the buffer (R37, R38, R43–R46). A COMMIT is refused
at the first check that fails, and nothing but the response changes (R37). That a PIN or a CAP goes by its own old bitrate (R44) where rung 0
rises above the current rung too (R190) is the model's choice of log 24. -/
def Obligations.CommitReplacesTheLadderOrIsRefused : Prop :=
  (∀ (buffer : Fin 2) (l : LadderId) (count nominal : Nat) (s : State), s.inReset = false →
     1 ≤ count → count ≤ 8 → 500 ≤ nominal → nominal ≤ 20000 →
     let rungs := (List.range count).map (if buffer = 0 then s.stagingA else s.stagingB).rungAt
     (∀ k, rungFaultAt rungs k = false) →
     ∃ t, exec (.commit (byteOf buffer.val ++ byteOf l.val ++ byteOf count ++ beBytes 2 nominal)) s = .next t ∧
       s.LadderReplaced l ⟨nominal, rungs⟩ t) ∧
  (∀ (buffer slot count : Byte) (nominal : Nat) (s : State), s.inReset = false → nominal < 65536 →
     let rungs := (List.range count.toNat).map (if buffer = 0 then s.stagingA else s.stagingB).rungAt
     let answer := fun status =>
       exec (.commit ([buffer, slot, count] ++ beBytes 2 nominal)) s
         = .next { s with response := some ⟨status, []⟩, controlFrame := none }
     if 1 < buffer.toNat ∨ 7 < slot.toNat then answer (.index 0)
     else if count.toNat < 1 ∨ 8 < count.toNat ∨ nominal < 500 ∨ 20000 < nominal then answer (.ladder 255)
     else ∀ k, rungFaultAt rungs k = true → (∀ j < k, rungFaultAt rungs j = false) → answer (.ladder k))

/-- PATCH: a slot or a rung that is not there is refused with INDEX, a patched ladder with a faulty rung with LADDER and its index, nothing but
the response changing; else the ladder is replaced by the patched one: the named fields of the one rung, no other, and what a replacement
brings (R39–R42, R43–R46). That a PIN or a CAP goes by its own old bitrate (R44) where rung 0 rises above the current rung too (R190) is the
model's choice of log 24. -/
def Obligations.PatchReplacesOneRung : Prop :=
  ∀ (payload : List Byte) (s : State), s.inReset = false → payload.length = 13 →
    let answer := fun status =>
      exec (.patch payload) s = .next { s with response := some ⟨status, []⟩, controlFrame := none }
    let r := byteAt payload 1
    let named := fun k => (byteAt payload 2).testBit k
    (7 < byteAt payload 0 → answer (.index 0)) ∧
    (∀ l : LadderId, l.val = byteAt payload 0 →
      ((s.ladder l).rungs.length ≤ r → answer (.index 0)) ∧
      (∀ g, (s.ladder l).rungs[r]? = some g →
        let patched : Rung :=
          { bitrate := if named 0 then beField payload 3 4 else g.bitrate
            lines := if named 1 then beField payload 7 2 else g.lines
            profile := if named 2 then payload.getD 9 0 else g.profile
            locator := if named 3 then BitVec.ofNat 16 (beField payload 10 2) else g.locator
            enabled := if named 4 then payload.getD 12 0 != 0 else g.enabled }
        let rungs := (s.ladder l).rungs.set r patched
        ((∀ k, rungFaultAt rungs k = false) →
          ∃ t, exec (.patch payload) s = .next t ∧ s.LadderReplaced l ⟨(s.ladder l).nominal, rungs⟩ t) ∧
        (∀ k, rungFaultAt rungs k = true → (∀ j < k, rungFaultAt rungs j = false) → answer (.ladder k))))

/-- READ_LADDER returns the slot with its BOUND marks and rung records, or the 128 bytes of a buffer, or is refused; it changes nothing but the
response (R49, 11.2, 11.5). -/
def Obligations.ReadLadderReturnsTheSource : Prop :=
  ∀ (source : Byte) (s : State), s.inReset = false → s.LaddersValid →
    let reply := fun status p =>
      exec (.readLadder [source]) s = .next { s with response := some ⟨status, p⟩, controlFrame := none }
    (∀ l : LadderId, l.val = source.toNat →
      ∃ p, reply .normal p ∧ p.length = 4 + 16 * (s.ladder l).rungs.length ∧
        beField p 0 1 = (s.ladder l).rungs.length ∧ beField p 1 2 = (s.ladder l).nominal ∧
        (∀ i : SessionId, (p.getD 3 0).getLsbD i.val
          = ((s.session i).config.ladderSlot == l && (s.session i).state != .closed)) ∧
        (∀ k g, (s.ladder l).rungs[k]? = some g →
          beField p (4 + 16 * k) 4 = g.bitrate ∧ beField p (8 + 16 * k) 2 = g.lines ∧
          p.getD (10 + 16 * k) 0 = g.profile ∧ beField p (11 + 16 * k) 2 = g.locator.toNat ∧
          beField p (13 + 16 * k) 1 = (if g.enabled then 1 else 0) ∧
          ∀ n, 14 ≤ n → n < 20 → p.getD (n + 16 * k) 0 = 0)) ∧
    (source.toNat = 0x10 → ∃ p, reply .normal p ∧ p.length = 128 ∧ ∀ k < 128, p.getD k 0 = s.stagingA.read k) ∧
    (source.toNat = 0x11 → ∃ p, reply .normal p ∧ p.length = 128 ∧ ∀ k < 128, p.getD k 0 = s.stagingB.read k) ∧
    (7 < source.toNat → source.toNat ≠ 0x10 → source.toNat ≠ 0x11 → reply (.index 0) [])

/-! ### Session Table -/

/-- A request that names a session or a client above 5 is refused with INDEX, detail 0, and one that its session's state does not allow with
WRONG-STATE and the state; an OPEN that names a slot above 7 is refused with INDEX, whatever its session. A frame with an unknown request
code is refused with UNKNOWN-REQUEST, a known request of another length with LENGTH and the length it must have. Nothing but the response
changes. That an END naming a session above 5 is refused so is the model's
choice of log 27: R64 does not say it. -/
def Obligations.RequestsAreRefused : Prop :=
  (∀ (n x y : Byte) (i : SessionId) (four rest : List Byte) (s : State), s.inReset = false →
     four.length = 4 → rest.length = 49 →
     let requests := fun n : Byte =>
       [Instr.start [n], .holdPlayout [n], .resumePlayout [n], .endSession [n], .closeSession [n], .clearReservation [n],
         .seek (n :: four), .configure (n :: rest), .setReservation [n, x, y]]
     let others := [Instr.readSession [n], .readLedger [n, x], .unbindClient [n], .readClient [n], .openSession [n, x],
       .bindClient [n, x], .bindClient [x, n]]
     (5 < n.toNat → ∀ c ∈ requests n ++ others,
       exec c s = .next { s with response := some ⟨.index 0, []⟩, controlFrame := none }) ∧
     (7 < x.toNat → exec (.openSession [n, x]) s = .next { s with response := some ⟨.index 0, []⟩, controlFrame := none }) ∧
     (let allowed : Instr → List SessionState := fun
         | .start _ => [.opened]
         | .holdPlayout _ | .resumePlayout _ => [.priming, .running, .starved, .draining, .faulted]
         | .endSession _ => [.priming, .running, .starved, .faulted]
         | .openSession _ => [.closed]
         | _ => [.opened, .priming, .running, .starved, .draining, .faulted]
       let number : Byte := BitVec.ofNat 8 i.val
       ∀ c ∈ requests number ++ (if x.toNat ≤ 7 then [.openSession [number, x]] else [])
           ++ (if x.toNat ≤ 5 then [.bindClient [x, number]] else []), (s.session i).state ∉ allowed c →
         exec c s = .next { s with response := some ⟨.wrongState (s.session i).state, []⟩, controlFrame := none })) ∧
  (∀ (payload : List Byte) (s : State), s.inReset = false →
     let answer := fun (code : Byte) status =>
       exec (controlCommand code payload) s = .next { s with response := some ⟨status, []⟩, controlFrame := none }
     (∀ code : Byte, code.toNat < 1 ∨ 0x18 < code.toNat →
       exec (.unknownRequest code payload) s
         = .next { s with response := some ⟨.unknownRequest, []⟩, controlFrame := none }) ∧
     (payload.length < 2 ∨ 250 < payload.length → answer 0x03 (.length 2)) ∧
     (∀ row ∈ [((0x01 : Byte), 20), (0x02, 0), (0x04, 5), (0x05, 13), (0x06, 1), (0x07, 2), (0x08, 50), (0x09, 1), (0x0A, 1),
         (0x0B, 1), (0x0C, 1), (0x0D, 5), (0x0E, 1), (0x0F, 3), (0x10, 1), (0x11, 1), (0x12, 2), (0x13, 2), (0x14, 1),
         (0x15, 1), (0x16, 0), (0x17, 2), (0x18, 0)],
       payload.length ≠ row.2 → answer row.1 (.length row.2)))

/-- OPEN of a CLOSED session: its record as the rule lists it, no recompute; a slot above 7 and a slot without rungs are refused (R57). -/
def Obligations.OpenOpensTheSession : Prop :=
  ∀ (i : SessionId) (slot : Byte) (s : State), s.inReset = false → (s.session i).state = .closed →
    let answer := fun t => exec (.openSession (byteOf i.val ++ [slot])) s = .next t
    (7 < slot.toNat → answer { s with response := some ⟨.index 0, []⟩, controlFrame := none }) ∧
    (∀ l : LadderId, l.val = slot.toNat →
      if (s.ladder l).rungs = [] then answer { s with response := some ⟨.ladderEmpty, []⟩, controlFrame := none }
      else answer
        { s.setSession i
            { s.session i with
              state := .opened
              config := { (s.session i).config with ladderSlot := l }
              stats := ⟨0, 0, 0, 0, 0, 0, 0, 0⟩
              dwell := 0
              reservation := .unreserved
              currentRung := none
              held := false
              parked := false
              tainted := false
              gateOpen := true } with
          response := some ⟨.normal, []⟩
          controlFrame := none })

/-- A CONFIGURE that passes every check writes the named fields, clamped, answers how many were clamped, and has the effects of the fields it
writes; nothing else changes (R53, R56). CONFIGURE is refused at the first of its checks that fails, and nothing but the response changes
(R53–R55). -/
def Obligations.ConfigureWritesTheNamedFieldsOrIsRefused : Prop :=
  (∀ (i : SessionId) (rest : List Byte) (s : State), s.inReset = false → rest.length = 49 → (s.session i).state ≠ .closed →
     let payload := BitVec.ofNat 8 i.val :: rest
     let x := s.session i
     let named := fun n : Nat => (beField payload 1 3).testBit (n - 1)
     ∀ c, x.config.ConfiguredBy payload c →
       (x.state ≠ .opened → c.ladderSlot = x.config.ladderSlot ∧ c.depthLimit = x.config.depthLimit
         ∧ c.pipeline = x.config.pipeline) →
       (x.state = .opened → named 1 = true → (s.ladder c.ladderSlot).rungs ≠ []) →
       c.panicLevel < c.steadyLevel → c.steadyLevel < c.fullLevel → c.startLevel ≤ c.fullLevel →
       c.restartLevel ≤ c.fullLevel → c.hysteresis < c.fullLevel →
       (∀ l ∈ c.lastSegment, c.firstSegment ≤ l ∧ (x.state.started = true → x.nextSegment ≤ l)) →
       ∃ t, exec (.configure payload) s = .next t ∧
         t = { s with
           sessions := t.sessions
           usable := t.usable
           parkingInForce := t.parkingInForce
           congested := t.congested
           partNotices := t.partNotices
           sessionNotices := t.sessionNotices
           attn := t.attn
           response := t.response
           controlFrame := none } ∧
         (∃ n, t.response = some ⟨if n = 0 then .normal else .clamped n, []⟩ ∧
           n = ([(3, 6, 1, 1, 15), (4, 7, 1, 2, 16), (7, 10, 1, 0, 7), (8, 11, 4, 0, 60000), (9, 15, 4, 0, 60000),
               (10, 19, 4, 0, 60000), (11, 23, 4, 0, 60000), (12, 27, 4, 0, 60000), (13, 31, 4, 500, 30000), (14, 35, 1, 0, 7),
               (15, 36, 1, 0, 15), (16, 37, 2, 256, 512), (17, 39, 2, 0, 10000)].filter
             fun (field, offset, size, lo, hi) => named field
               && (decide (beField payload offset size < lo) || decide (hi < beField payload offset size))).length) ∧
         (let running := (named 8 || named 9) && ((x.state == .priming && decide (c.startLevel ≤ bufferedMs x.ledger))
             || (x.state == .starved && decide (c.restartLevel ≤ bufferedMs x.ledger)))
          t.session i =
             { x with
               config := c
               currentRung := if c.ladderSlot = x.config.ladderSlot then x.currentRung else none
               reservation := if c.ladderSlot = x.config.ladderSlot then x.reservation else .unreserved
               state := if running then .running else x.state
               gateOpen := if named 12 || named 13 then c.gateAt (committedMs x.ledger) x.gateOpen else x.gateOpen
               parked := (t.session i).parked
               share := (t.session i).share } ∧
           t.noticesOf i = (if running then s.noticesOf i ||| 1 else s.noticesOf i)) ∧
         (∀ k : SessionId, k ≠ i → t.noticesOf k = s.noticesOf k ∧
           t.session k = { s.session k with parked := (t.session k).parked, share := (t.session k).share }) ∧
         s.RecomputedIf (c.sessionClass ≠ x.config.sessionClass ∨ c.weight ≠ x.config.weight)
           (s.parkedBut i (if c.sessionClass = x.config.sessionClass then x.parked
             else c.sessionClass == .background && x.state.started && s.parkingInForce)) t) ∧
  (∀ (i : SessionId) (rest : List Byte) (s : State), s.inReset = false → rest.length = 49 → (s.session i).state ≠ .closed →
     let payload := BitVec.ofNat 8 i.val :: rest
     let x := s.session i
     let named := fun n : Nat => (beField payload 1 3).testBit (n - 1)
     let carried := fun n : Nat => beField payload (match n with | 1 => 4 | 2 => 5 | 4 => 7 | 5 => 8 | _ => 9) 1
     let answer := fun status =>
       exec (.configure payload) s = .next { s with response := some ⟨status, []⟩, controlFrame := none }
     let unassigned := [1, 2, 5, 6].filter fun n => named n && match n with
       | 1 => decide (7 < carried 1)
       | 2 => decide (1 < carried 2)
       | 5 => decide (carried 5 ≠ 1 ∧ carried 5 ≠ 2)
       | _ => decide (3 < carried 6)
     let locked := [1, 4, 5].filter fun n => named n && match n with
       | 1 => decide (carried 1 ≠ x.config.ladderSlot.val)
       | 4 => decide (max 2 (min 16 (carried 4)) ≠ x.config.depthLimit)
       | _ => decide (carried 5 ≠ x.config.pipeline.depth)
     match unassigned with
     | n :: _ => answer (.index n)
     | [] =>
       match (if x.state = .opened then [] else locked) with
       | n :: _ => answer (.locked n)
       | [] =>
         if x.state = .opened ∧ named 1 = true ∧ ∀ l : LadderId, l.val = carried 1 → (s.ladder l).rungs = [] then
           answer .ladderEmpty
         else
           ∀ c, x.config.ConfiguredBy payload c →
             if c.steadyLevel ≤ c.panicLevel then answer (.ordering 10)
             else if c.fullLevel ≤ c.steadyLevel then answer (.ordering 11)
             else if c.fullLevel < c.startLevel then answer (.ordering 8)
             else if c.fullLevel < c.restartLevel then answer (.ordering 9)
             else if c.fullLevel ≤ c.hysteresis then answer (.ordering 13)
             else ∀ l ∈ c.lastSegment,
               (l < c.firstSegment ∨ (x.state.started = true ∧ l < x.nextSegment)) → answer (.ordering 19))

/-- START of an OPEN session: PRIMING, or RUNNING at once where the start level is met; the numbers reset as the rule lists them; parked where
it is BACKGROUND and parking is in force; one recompute; other sessions keep all but what the recompute writes (R58, R59, R26, R22). -/
def Obligations.StartEntersPriming : Prop :=
  ∀ (i : SessionId) (s : State), s.inReset = false → (s.session i).state = .opened →
    let x := s.session i
    ∃ t, exec (.start (byteOf i.val)) s = .next t ∧
      t = { s with
        sessions := t.sessions
        usable := t.usable
        parkingInForce := t.parkingInForce
        congested := t.congested
        partNotices := t.partNotices
        sessionNotices := t.sessionNotices
        attn := t.attn
        response := some ⟨.normal, []⟩
        controlFrame := none } ∧
      (let running := decide (x.config.startLevel ≤ bufferedMs x.ledger)
       t.session i =
          { x with
            state := if running then .running else .priming
            nextSegment := x.config.firstSegment
            currentRung := none
            dwell := 0
            parked := x.config.sessionClass == .background && t.parkingInForce
            share := (t.session i).share } ∧
        t.noticesOf i = (if running then s.noticesOf i ||| 1 else s.noticesOf i)) ∧
      (∀ k : SessionId, k ≠ i → t.noticesOf k = s.noticesOf k ∧
        t.session k = { s.session k with parked := (t.session k).parked, share := (t.session k).share }) ∧
      s.Recomputed (s.parkedBut i (x.config.sessionClass == .background && s.parkingInForce)) t

/-- HOLD_PLAYOUT sets and RESUME_PLAYOUT clears the held flag in PRIMING, RUNNING, STARVED, DRAINING and FAULTED, and nothing else (R61).
SET_RESERVATION stores a PIN or a CAP on an enabled rung of the session's ladder, or is refused at the first check that fails;
CLEAR_RESERVATION clears it (R62, R63). -/
def Obligations.HeldFlagAndReservationAreSet : Prop :=
  (∀ (i : SessionId) (s : State), s.inReset = false →
     (s.session i).state ≠ .closed → (s.session i).state ≠ .opened →
     exec (.holdPlayout (byteOf i.val)) s = .next
       { s.setSession i { s.session i with held := true } with response := some ⟨.normal, []⟩, controlFrame := none } ∧
     exec (.resumePlayout (byteOf i.val)) s = .next
       { s.setSession i { s.session i with held := false } with response := some ⟨.normal, []⟩, controlFrame := none }) ∧
  (∀ (i : SessionId) (kind rung : Byte) (s : State), s.inReset = false → (s.session i).state ≠ .closed →
     let x := s.session i
     let refused := fun status =>
       exec (.setReservation (byteOf i.val ++ [kind, rung])) s
         = .next { s with response := some ⟨status, []⟩, controlFrame := none }
     (if kind.toNat ≠ 1 ∧ kind.toNat ≠ 2 then refused (.index 0)
     else if ∀ g, (s.ladder x.config.ladderSlot).rungs[rung.toNat]? = some g → g.enabled = false then refused (.index rung.toNat)
     else if x.reservation ≠ .unreserved then refused .reserved
     else exec (.setReservation (byteOf i.val ++ [kind, rung])) s = .next
       { s.setSession i { x with reservation := if kind.toNat = 1 then .pin rung.toNat else .cap rung.toNat } with
         response := some ⟨.normal, []⟩
         controlFrame := none }) ∧
     exec (.clearReservation (byteOf i.val)) s = .next
       { s.setSession i { x with reservation := .unreserved } with response := some ⟨.normal, []⟩, controlFrame := none })

/-- END of a started or FAULTED session: DRAINING, its WAITING and QUEUED entries gone, the others kept, one recompute where it was started;
gate and taint follow the ledger; the held flag stays; no notice of its own, no statistic (R64, R22, R28, R72, R95, R191). -/
def Obligations.EndDrainsTheSession : Prop :=
  ∀ (i : SessionId) (s : State), s.inReset = false → s.LedgersSound → s.TagsSound → s.FetchesAgree → s.TaintFollows →
    (s.session i).state ∈ [SessionState.priming, .running, .starved, .faulted] →
    let x := s.session i
    let leaves := fun e : Entry => e.state == .waiting || e.state == .queued
    ∃ t, exec (.endSession (byteOf i.val)) s = .next t ∧ s.EntriesLeave i leaves t ∧
      t = { s with
        sessions := t.sessions
        poolFree := t.poolFree
        slots := t.slots
        orderQueue := t.orderQueue
        usable := t.usable
        parkingInForce := t.parkingInForce
        congested := t.congested
        partNotices := t.partNotices
        attn := t.attn
        response := some ⟨.normal, []⟩
        controlFrame := none } ∧
      (let kept := x.ledger.filter fun e => !leaves e
       t.session i =
          { x with
            state := .draining
            parked := false
            ledger := kept
            tainted := kept.any (·.short)
            gateOpen := if committedMs kept = committedMs x.ledger then x.gateOpen
              else x.config.gateAt (committedMs kept) x.gateOpen
            share := (t.session i).share }) ∧
      (∀ k : SessionId, k ≠ i → t.session k =
        { s.session k with parked := (t.session k).parked, share := (t.session k).share }) ∧
      s.RecomputedIf (x.state ≠ .faulted) (s.parkedBut i false) t ∧ s.AttnFollows t

/-- SEEK outside OPEN: the ledger flushed, the record and the bound client as the rule lists them, PRIMING (or RUNNING where the start level is
0), one recompute where the session was not started (R69, R68, R59, R26, R22, R162). SEEK: above the last segment refused with ORDERING,
detail 19; in OPEN only the first segment is written (R69). -/
def Obligations.SeekStartsAgain : Prop :=
  (∀ (i : SessionId) (n : Nat) (s : State), s.inReset = false → n < 2 ^ 32 →
     s.LedgersSound → s.TagsSound → s.FetchesAgree → s.BindingsSound →
     (s.session i).state ≠ .closed → (s.session i).state ≠ .opened → (∀ l ∈ (s.session i).config.lastSegment, n ≤ l) →
     let x := s.session i
     ∃ t, exec (.seek (byteOf i.val ++ beBytes 4 n)) s = .next t ∧ s.EntriesLeave i (fun _ => true) t ∧
       t = { s with
         sessions := t.sessions
         poolFree := t.poolFree
         slots := t.slots
         orderQueue := t.orderQueue
         cancelList := t.cancelList
         openChoices := t.openChoices
         clients := t.clients
         usable := t.usable
         parkingInForce := t.parkingInForce
         congested := t.congested
         partNotices := t.partNotices
         sessionNotices := t.sessionNotices
         attn := t.attn
         response := some ⟨.normal, []⟩
         controlFrame := none } ∧
       t.session i =
         { x with
           state := if x.config.startLevel = 0 then .running else .priming
           config := { x.config with firstSegment := n }
           ledger := []
           tainted := false
           gateOpen := true
           reservation := .unreserved
           held := false
           currentRung := none
           dwell := 0
           nextSegment := n
           parked := (t.session i).parked
           share := (t.session i).share } ∧
       (∀ k : SessionId, k ≠ i → t.noticesOf k = s.noticesOf k ∧
         t.session k = { s.session k with parked := (t.session k).parked, share := (t.session k).share }) ∧
       t.noticesOf i = (if x.config.startLevel = 0 then s.noticesOf i ||| 1 else s.noticesOf i) ∧
       (∀ c : ClientId, t.client c =
         if (s.client c).binding = some i then { s.client c with flushPending := true, gapPending := true }
         else s.client c) ∧
       s.RecomputedIf (x.state.started = false)
         (s.parkedBut i (if x.state.started then x.parked else x.config.sessionClass == .background && s.parkingInForce)) t) ∧
  (∀ (i : SessionId) (n : Nat) (s : State), s.inReset = false → n < 2 ^ 32 → (s.session i).state ≠ .closed →
     let x := s.session i
     ((∃ l ∈ x.config.lastSegment, l < n) →
       exec (.seek (byteOf i.val ++ beBytes 4 n)) s
         = .next { s with response := some ⟨.ordering 19, []⟩, controlFrame := none }) ∧
     ((∀ l ∈ x.config.lastSegment, n ≤ l) → x.state = .opened →
       exec (.seek (byteOf i.val ++ beBytes 4 n)) s = .next
         { s.setSession i { x with config := { x.config with firstSegment := n } } with
           response := some ⟨.normal, []⟩
           controlFrame := none }))

/-- CLOSE: the ledger flushed, the client unbound, CLOSED, one recompute where the session was started; the rest of the record and the notices
stay (R70, R68, R161, R22, R28). -/
def Obligations.CloseClosesTheSession : Prop :=
  ∀ (i : SessionId) (s : State), s.inReset = false → s.LedgersSound → s.TagsSound → s.FetchesAgree → s.BindingsSound →
    (s.session i).state ≠ .closed →
    let x := s.session i
    ∃ t, exec (.closeSession (byteOf i.val)) s = .next t ∧ s.EntriesLeave i (fun _ => true) t ∧
      t = { s with
        sessions := t.sessions
        poolFree := t.poolFree
        slots := t.slots
        orderQueue := t.orderQueue
        cancelList := t.cancelList
        openChoices := t.openChoices
        clients := t.clients
        usable := t.usable
        parkingInForce := t.parkingInForce
        congested := t.congested
        partNotices := t.partNotices
        attn := t.attn
        response := some ⟨.normal, []⟩
        controlFrame := none } ∧
      t.session i =
        { x with
          state := .closed, ledger := [], tainted := false, gateOpen := true, parked := false
          share := (t.session i).share } ∧
      (∀ k : SessionId, k ≠ i → t.session k =
        { s.session k with parked := (t.session k).parked, share := (t.session k).share }) ∧
      (∀ c : ClientId, t.client c =
        if (s.client c).binding = some i then ⟨none, false, false, none, (s.client c).answer⟩ else s.client c) ∧
      s.RecomputedIf (x.state.started = true) (s.parkedBut i false) t ∧ s.AttnFollows t

/-- READ_SESSION returns its 94 bytes, each field the session's (its low bytes), in every state, and changes nothing but the response (R74, R32,
R178, 11.2, 11.5). READ_CLIENT returns its 14 bytes, each field the client's (its low bytes), and changes nothing but the response (R171,
11.2). -/
def Obligations.ReadSessionAndReadClientReturnTheirRecords : Prop :=
  (∀ (i : SessionId) (s : State), s.inReset = false →
     let x := s.session i
     let c := x.config
     let bit := fun b : Bool => if b then 1 else 0
     ∃ p, exec (.readSession (byteOf i.val)) s = .next { s with response := some ⟨.normal, p⟩, controlFrame := none } ∧
       p.length = 94 ∧
       (∀ row ∈ [(0, 1, x.state.code), (1, 1, bit x.held + 2 * bit x.parked + 4 * bit x.gateOpen + 8 * bit x.tainted),
           (2, 1, c.ladderSlot.val), (3, 1, c.sessionClass.code), (4, 1, c.weight), (5, 1, c.depthLimit),
           (6, 1, c.pipeline.depth), (7, 1, c.policy.code), (8, 1, c.retryLimit), (9, 4, c.startLevel),
           (13, 4, c.restartLevel), (17, 4, c.panicLevel), (21, 4, c.steadyLevel), (25, 4, c.fullLevel),
           (29, 4, c.hysteresis), (33, 1, c.startCap), (34, 1, c.dwellSetting), (35, 2, c.upMargin),
           (37, 2, c.abandonGuard), (39, 4, c.firstSegment), (43, 1, bit c.lastSegment.isSome),
           (44, 4, c.lastSegment.getD 0),
           (48, 1, x.currentRung.getD 255), (49, 1, x.dwell), (50, 1, x.reservation.kindCode),
           (51, 1, x.reservation.rung?.getD 0), (52, 4, x.nextSegment), (56, 4, x.share), (60, 4, bufferedMs x.ledger),
           (64, 4, committedMs x.ledger), (68, 1, x.zone.code), (69, 1, x.ledger.length),
           (70, 1, (x.ledger.filter (·.state == .queued)).length), (71, 1, (x.ledger.filter (·.state == .active)).length),
           (72, 1, ((allSessions.find? fun k => (s.client k).binding == some i).map (·.val)).getD 255),
           (73, 4, x.stats.handed), (77, 2, x.stats.upSwitches), (79, 2, x.stats.downSwitches),
           (81, 2, x.stats.starvations), (83, 2, x.stats.stalls), (85, 2, x.stats.abandonments), (87, 2, x.stats.skips),
           (89, 4, x.stats.bytesArrived), (93, 1, (s.noticesOf i).toNat)],
         beField p row.1 row.2.1 = row.2.2 % 256 ^ row.2.1)) ∧
  (∀ (c : ClientId) (s : State), s.inReset = false →
     let x := s.client c
     let bit := fun b : Bool => if b then 1 else 0
     ∃ p, exec (.readClient (byteOf c.val)) s = .next { s with response := some ⟨.normal, p⟩, controlFrame := none } ∧
       p.length = 14 ∧
       ∀ row ∈ [(0, 1, (x.binding.map (·.val)).getD 255),
           (1, 1, bit x.flushPending + 2 * bit x.gapPending + 4 * bit x.lastHanded.isSome),
           (2, 4, (x.lastHanded.map (·.segment)).getD 0), (6, 1, (x.lastHanded.map (·.rung)).getD 0),
           (7, 4, (x.lastHanded.map (·.bitrate)).getD 0), (11, 1, (match x.lastHanded with | some h => h.profile.toNat | none => 0)),
           (12, 1, x.answer.code), (13, 1, s.baseAddress)],
         beField p row.1 row.2.1 = row.2.2 % 256 ^ row.2.1)

/-- READ_LEDGER returns its header and at most four entries from the starting position, or is refused above position 15; it changes nothing but
the response (R96, R91–R93, R147, 11.2). That the header's tainted byte is 1 while the flag is set is the model's choice of log 29. -/
def Obligations.ReadLedgerReturnsTheEntries : Prop :=
  ∀ (i : SessionId) (position : Byte) (s : State), s.inReset = false →
    let x := s.session i
    let reply := fun status p =>
      exec (.readLedger (byteOf i.val ++ [position])) s
        = .next { s with response := some ⟨status, p⟩, controlFrame := none }
    let bit := fun b : Bool => if b then 1 else 0
    let returned := (x.ledger.drop position.toNat).take 4
    if 15 < position.toNat then reply (.index 0) []
    else ∃ p, reply .normal p ∧ p.length = 19 + 50 * returned.length ∧
      (∀ row ∈ [(0, 1, x.state.code), (1, 1, s.poolFree), (2, 1, x.ledger.length), (3, 4, bufferedMs x.ledger),
          (7, 4, committedMs x.ledger), (11, 1, x.zone.code), (12, 1, bit x.tainted),
          (13, 4, (x.ledger.head?.map (·.segment)).getD 0), (17, 1, position.toNat), (18, 1, returned.length)],
        beField p row.1 row.2.1 = row.2.2 % 256 ^ row.2.1) ∧
      (∀ k e, returned[k]? = some e →
        ∀ row ∈ [(0, 4, e.segment), (4, 1, e.state.code), (5, 1, e.issue.rung), (6, 4, e.issue.bitrate),
            (10, 1, e.issue.profile.toNat), (11, 2, e.issue.lines), (13, 2, e.issue.locator.toNat), (15, 2, e.issue.nominal),
            (17, 2, e.reported.getD 0), (19, 1, e.tag.getD 0), (20, 4, e.issue.expected), (24, 4, e.arrived),
            (28, 4, e.total.getD 0), (32, 4, (e.token.getD 0).toNat), (36, 1, e.attempts),
            (37, 2, (e.notBefore.map fun due => due - s.now).getD 0),
            (39, 4, (e.unavailableSince.map fun since => min (s.now - since) (2 ^ 31 - 1)).getD 0),
            (43, 4, e.upperBound.getD 0),
            (47, 1, bit e.short + 2 * bit e.lowered + 4 * bit e.retried + 8 * bit e.notBefore.isSome
              + 16 * bit e.unavailableSince.isSome + 32 * bit e.total.isSome + 64 * bit e.remaining.isSome),
            (48, 2, e.remaining.getD 0)],
          beField p (19 + 50 * k + row.1) row.2.1 = row.2.2 % 256 ^ row.2.1)

/-! ### Playout clients, notices, frames -/

/-- BIND of an unbound client to an unbound session that is not CLOSED; else refused at the first check that fails (R160). UNBIND of a bound
client: its session's PLAYING entry is released, with what a change of the ledger brings, and its record is cleared but for its held answer;
of an unbound client it changes nothing but the response (R161, R86, R94, R95, R72). -/
def Obligations.BindAndUnbind : Prop :=
  (∀ (c : ClientId) (i : SessionId) (s : State), s.inReset = false →
     let answer := fun t => exec (.bindClient (byteOf c.val ++ byteOf i.val)) s = .next t
     let refused := fun status => answer { s with response := some ⟨status, []⟩, controlFrame := none }
     if (s.session i).state = .closed then refused (.wrongState .closed)
     else match (s.client c).binding with
       | some k => refused (.clientBound k)
       | none =>
         (∀ d : ClientId, (s.client d).binding = some i → (∀ e : ClientId, e < d → (s.client e).binding ≠ some i) →
           refused (.sessionBound d)) ∧
         ((∀ d : ClientId, (s.client d).binding ≠ some i) →
           answer
             { s.setClient c ⟨some i, false, false, none, (s.client c).answer⟩ with
               response := some ⟨.normal, []⟩
               controlFrame := none })) ∧
  (∀ (c : ClientId) (s : State), s.inReset = false → s.LedgersSound → s.TagsSound → s.FetchesAgree → s.TaintFollows →
     match (s.client c).binding with
     | none =>
       exec (.unbindClient (byteOf c.val)) s = .next { s with response := some ⟨.normal, []⟩, controlFrame := none }
     | some i =>
       let x := s.session i
       let kept := x.ledger.filter fun e => !(e.state == .playing)
       ∃ t, exec (.unbindClient (byteOf c.val)) s = .next t ∧ s.EntriesLeave i (fun e => e.state == .playing) t ∧
         t = { s with
           sessions := t.sessions
           sessionNotices := t.sessionNotices
           attn := t.attn
           poolFree := t.poolFree
           slots := t.slots
           clients := t.clients
           response := some ⟨.normal, []⟩
           controlFrame := none } ∧
         (let running := decide (bufferedMs kept ≠ bufferedMs x.ledger)
             && ((x.state == .priming && decide (x.config.startLevel ≤ bufferedMs kept))
               || (x.state == .starved && decide (x.config.restartLevel ≤ bufferedMs kept)))
          t.session i =
           { x with
             ledger := kept
             tainted := kept.any (·.short)
             gateOpen := if committedMs kept = committedMs x.ledger then x.gateOpen
               else x.config.gateAt (committedMs kept) x.gateOpen
             state := if running then .running else x.state } ∧
          t.noticesOf i = (if running then s.noticesOf i ||| 1 else s.noticesOf i)) ∧
         (∀ k : SessionId, k ≠ i → t.session k = s.session k ∧ t.noticesOf k = s.noticesOf k) ∧
         (∀ d : ClientId, t.client d =
           if d = c then ⟨none, false, false, none, (s.client c).answer⟩ else s.client d))

/-- READ_NOTICES returns the notice set and the mask, empties the set, and so releases ATTN; nothing else changes (R180, R182, 11.2).
SET_NOTICE_ENABLE replaces the mask by the twelve low bits carried; ATTN follows at once, and nothing else changes (R181, R182, R186). -/
def Obligations.NoticesAreReadAndEnabled : Prop :=
  (∀ s : State, s.inReset = false →
     ∃ t p, exec (.readNotices []) s = .next t ∧
       t = { s with
         sessionNotices := t.sessionNotices
         partNotices := 0
         attn := false
         response := some ⟨.normal, p⟩
         controlFrame := none } ∧
       (∀ i : SessionId, t.noticesOf i = 0) ∧ p.length = 9 ∧
       (∀ i : SessionId, beField p i.val 1 = (s.noticesOf i).toNat) ∧
       beField p 6 1 = s.partNotices.toNat ∧ beField p 7 2 = s.noticeEnable.toNat) ∧
  (∀ (b1 b0 : Byte) (s : State), s.inReset = false →
     ∃ t, exec (.setNoticeEnable [b1, b0]) s = .next t ∧
       t = { s with noticeEnable := t.noticeEnable, attn := t.attn, response := some ⟨.normal, []⟩, controlFrame := none } ∧
       t.noticeEnable.toNat = (b1.toNat * 256 + b0.toNat) % 4096 ∧
       (t.attn = true ↔
         (∃ (i : SessionId) (k : Nat), k < 7 ∧ (s.noticesOf i).getLsbD k = true ∧ t.noticeEnable.getLsbD k = true) ∨
         (∃ k < 5, s.partNotices.getLsbD k = true ∧ t.noticeEnable.getLsbD (7 + k) = true)))

/-! ### Fetch Order Unit -/

/-- TAKE is answered from the cancel list first, from the order queue second, with NONE when both are empty; an order's slot becomes TAKEN with
its watchdog armed and its entry ACTIVE; nothing else changes (R128, R135). PAUSE sets and RESUME clears the link-paused flag, each answered
ACK; a window at its length in force stops one step short of it (R10, R11, R137). -/
def Obligations.TakePauseAndResumeAreAnswered : Prop :=
  (∀ s : State, s.inReset = false →
     (∀ tag rest, s.cancelList = tag :: rest →
       exec .take s = .next { s with cancelList := rest, fetchAnswer := some (.cancel tag), fetchRecord := [] }) ∧
     (s.cancelList = [] → s.orderQueue = [] →
       exec .take s = .next { s with fetchAnswer := some .nothing, fetchRecord := [] }) ∧
     (∀ j rest tag r e, s.cancelList = [] → s.orderQueue = j :: rest → s.slot j = .queued tag r → s.entry? r = some e →
       ∃ t, exec .take s = .next t ∧
         t = { s with
           orderQueue := rest
           slots := t.slots
           sessions := t.sessions
           fetchAnswer := some
             (.order tag r.session e.issue.locator e.segment e.issue.expected e.issue.bitrate)
           fetchRecord := [] } ∧
         (∀ k : SlotId, t.slot k = if k = j then .taken tag r 0 s.params.stallLimit else s.slot k) ∧
         (∀ k : SessionId, t.session k =
           if k = r.session then
             { s.session k with ledger := (s.session k).ledger.map fun e' =>
                 if e'.segment = r.segment then { e' with state := .active, tag := some tag } else e' }
           else s.session k))) ∧
  (∀ s : State, s.inReset = false →
     exec .pause s = .next
       { s with
         meter := { s.meter with
           paused := true
           windowElapsed := if s.occupied then min s.meter.windowElapsed (s.meter.windowLength - 1)
             else s.meter.windowElapsed }
         fetchAnswer := some .ack
         fetchRecord := [] } ∧
     exec .resume s = .next
       { s with meter := { s.meter with paused := false }, fetchAnswer := some .ack, fetchRecord := [] })

/-- ARRIVAL on a CANCELLING slot credits the open window alone; on a TAKEN slot it credits the window, the entry and the session and restarts
the watchdog, and where the abandonment check says so it abandons the entry (R3, R80, R110–R112, R130, R135). -/
def Obligations.ArrivalCreditsAndMayAbandon : Prop :=
  ∀ (j : SlotId) (tag : Byte) (count : BitVec 16) (s : State), s.inReset = false → s.TagsSound → s.LedgersSound →
    let credited := fun n : Nat => min 4294967295 (n + count.toNat)
    let meter := { s.meter with windowBytes := credited s.meter.windowBytes }
    (∀ back kept owed, s.slot j = .cancelling tag.toNat back kept owed →
      exec (.arrival tag count) s = .next { s with meter := meter, fetchAnswer := some .ack, fetchRecord := [] }) ∧
    (∀ r elapsed limit e, s.slot j = .taken tag.toNat r elapsed limit → s.entry? r = some e →
      let x := s.session r.session
      let stats := { x.stats with bytesArrived := credited x.stats.bytesArrived }
      ∃ t, exec (.arrival tag count) s = .next t ∧
        t = { s with
          meter := meter
          slots := t.slots
          sessions := t.sessions
          cancelList := t.cancelList
          fetchAnswer := some .ack
          fetchRecord := [] } ∧
        (∀ k : SlotId, k ≠ j → t.slot k = s.slot k) ∧
        (∀ k : SessionId, k ≠ r.session → t.session k = s.session k) ∧
        (¬s.AbandonmentDue r.session e (credited e.arrived) →
          t.slot j = .taken tag.toNat r 0 s.params.stallLimit ∧ t.cancelList = s.cancelList ∧
          t.session r.session =
            { x.withEntry r.segment { e with arrived := credited e.arrived } with stats := stats }) ∧
        (s.AbandonmentDue r.session e (credited e.arrived) →
          t.slot j = .cancelling tag.toNat (some r) e.issue false ∧ t.cancelList = s.cancelList ++ [tag.toNat] ∧
          t.session r.session =
            { x.withEntry r.segment
                { e with
                  arrived := credited e.arrived
                  state := .waiting
                  tag := none
                  notBefore := some s.now
                  upperBound := some e.issue.bitrate
                  lowered := true } with
              stats := { stats with abandonments := min 65535 (stats.abandonments + 1) } }))

/-- DONE with COMPLETE or TRUNCATED on a TAKEN slot: the slot FREE, the entry READY with the values of the DONE, what follows the change of its
ledger, KEPT; nothing else (R131, R81, R94, R95, R1; the model's choice of log 12 for a window left at its length). -/
def Obligations.DoneBringsTheSegment : Prop :=
  ∀ (j : SlotId) (tag : Byte) (truncated : Bool) (total token : BitVec 32) (duration : BitVec 16) (s : State),
    s.inReset = false → s.TagsSound → s.LedgersSound →
    ∀ r elapsed limit e, s.slot j = .taken tag.toNat r elapsed limit → s.entry? r = some e →
      let stays := s.meter.paused = true ∨ ∃ k : SlotId, k ≠ j ∧ (s.slot k).occupying = true
      ∃ t, exec (.done tag (if truncated then .truncated else .complete) total token duration) s = .next t ∧
        t = { s with
          meter := t.meter
          slots := t.slots
          sessions := t.sessions
          sessionNotices := t.sessionNotices
          attn := t.attn
          fetchAnswer := some .kept
          fetchRecord := [] } ∧
        t.meter = { s.meter with windowElapsed := t.meter.windowElapsed } ∧
        (stays → t.meter = s.meter) ∧
        (¬stays → t.meter.windowElapsed = min s.meter.windowElapsed (s.meter.windowLength - 1)) ∧
        (∀ k : SlotId, t.slot k = if k = j then .free else s.slot k) ∧
        ((s.session r.session).withEntry r.segment
            { e with
              state := .ready
              tag := none
              notBefore := none
              total := some total.toNat
              token := some token
              reported := if duration = 0 then none else some (min duration.toNat 60000)
              short := e.short || truncated }).Settled (s.session r.session).ledger
          (t.session r.session) (s.noticesOf r.session) (t.noticesOf r.session) ∧
        (∀ k : SessionId, k ≠ r.session → t.session k = s.session k ∧ t.noticesOf k = s.noticesOf k)

/-- DONE with another result on a TAKEN slot: the slot FREE, the entry charged (FAILED, CANCELLED) or marked unavailable (UNAVAILABLE), and the
outcome the rules choose applied, with what follows; CLEARED (R131, R145–R150). What each outcome does is another statement's. -/
def Obligations.DoneWithoutTheSegmentTakesAnOutcome : Prop :=
  ∀ (j : SlotId) (tag : Byte) (total token : BitVec 32) (duration : BitVec 16) (s : State), s.inReset = false → s.TagsSound →
    ∀ r elapsed limit e, s.slot j = .taken tag.toNat r elapsed limit → s.entry? r = some e →
      let x := s.session r.session
      let after := fun (f : Entry → Entry) (o : FailureOutcome) =>
        Host.Outcome.next (φ := Fault) (ρ := Refusal)
          (((((s.endFetch j).updateEntry r f).applyOutcome r o).settle r.session x.ledger).answerFetch .cleared)
      let charged := after (fun e => { e with attempts := e.attempts + 1, retried := true })
        (if e.attempts + 1 ≤ x.config.retryLimit then .retry (s.now + s.params.retryInterval)
        else if x.config.policy = .skip then .skip else .fault)
      let since := e.unavailableSince.getD s.now
      let hold := if s.params.holdTimeout ≤ min (s.now - since) (2 ^ 31 - 1) then FailureOutcome.fault
        else .retry (s.now + s.params.retryInterval)
      exec (.done tag .failed total token duration) s = charged ∧
      exec (.done tag .cancelled total token duration) s = charged ∧
      exec (.done tag .unavailable total token duration) s =
        after (fun e => { e with unavailableSince := some (e.unavailableSince.getD s.now) })
          (match x.config.policy with
          | .halt => .fault
          | .skip => .skip
          | .descend => if (s.ladderOf r.session).bitrate 0 < e.issue.bitrate then .descent else hold
          | .hold => hold)

/-- What the four outcomes do to the entry, its session, the pool and the budget: a retry and a descent make it WAITING (or, in a session that
winds down, remove it as a skip), a skip removes it, a fault removes it, all later ones and the WAITING ones and takes the session to
FAULTED, with one recompute where it was started. Orders of removed entries are withdrawn, their fetches cancelled, back-references to them
cleared; nothing else changes. The entry's own fetch has ended or been cancelled before its retry or descent (R144, R146, R151–R154, R66,
R83, R86, R121, R122, R22, R28). -/
def Obligations.OutcomesTakeEffect : Prop :=
  ∀ (r : EntryRef) (e : Entry) (s : State), s.LedgersSound → s.NoneWaitingWhileWinding → s.TagsSound →
    (∀ j : SlotId, s.slotAgrees (s.slot j) = true) → s.entry? r = some e →
    let x := s.session r.session
    let kept := x.ledger.filter fun e' => e'.segment != r.segment
    let unserved := ∀ j : SlotId, (s.slot j).serves r.session e = false
    let skips := fun n : Nat => { x.stats with skips := min 65535 (x.stats.skips + n) }
    let others := fun t : State => ∀ k : SessionId, k ≠ r.session → t.session k = s.session k ∧ t.noticesOf k = s.noticesOf k
    let gone := fun t : State => s.EntriesLeave r.session (fun e' => e'.segment == r.segment) t
    let removed := fun t : State =>
      t = { s with
        sessions := t.sessions
        poolFree := t.poolFree
        slots := t.slots
        orderQueue := t.orderQueue
        cancelList := t.cancelList
        sessionNotices := t.sessionNotices
        attn := t.attn } ∧ t.attn = t.enabledMember ∧
      t.session r.session = { x with ledger := kept, stats := skips 1 } ∧ t.poolFree = s.poolFree + 1 ∧
        t.noticesOf r.session = s.noticesOf r.session ||| 8 ∧ others t
    let replaced := fun (e' : Entry) (t : State) =>
      t = { s with sessions := t.sessions } ∧ t.session r.session = x.withEntry r.segment e' ∧ others t
    (∀ due, let t := s.applyOutcome r (.retry due)
      if x.state.winding then (unserved → gone t) ∧ removed t
      else replaced { e with state := .waiting, tag := none, notBefore := some due } t) ∧
    (let t := s.applyOutcome r .descent
      if x.state.winding then (unserved → gone t) ∧ removed t
      else replaced
        { e with
          state := .waiting
          tag := none
          notBefore := some s.now
          upperBound := some e.issue.bitrate
          lowered := true } t) ∧
    gone (s.applyOutcome r .skip) ∧ removed (s.applyOutcome r .skip) ∧
    (let t := s.applyOutcome r .fault
      let later := x.ledger.filter fun e' => decide (r.segment ≤ e'.segment)
      let waiting := x.ledger.filter fun e' => e'.state == .waiting && decide (e'.segment < r.segment)
      s.EntriesLeave r.session (fun e' => decide (r.segment ≤ e'.segment) || e'.state == .waiting) t ∧
      t = { s with
        sessions := t.sessions
        poolFree := t.poolFree
        slots := t.slots
        orderQueue := t.orderQueue
        cancelList := t.cancelList
        openChoices := t.openChoices
        usable := t.usable
        parkingInForce := t.parkingInForce
        congested := t.congested
        partNotices := t.partNotices
        sessionNotices := t.sessionNotices
        attn := t.attn } ∧ t.attn = t.enabledMember ∧
      t.session r.session =
        { x with
          state := .faulted
          parked := false
          ledger := x.ledger.filter fun e' => e'.state != .waiting && decide (e'.segment < r.segment)
          stats := if waiting = [] then x.stats else skips waiting.length
          share := (t.session r.session).share } ∧
      t.poolFree = s.poolFree + later.length + waiting.length ∧
      t.noticesOf r.session = (s.noticesOf r.session ||| if waiting = [] then 0 else 8) ||| 16 ∧
      (∀ k : SessionId, k ≠ r.session → t.noticesOf k = s.noticesOf k ∧
        t.session k = { s.session k with parked := (t.session k).parked, share := (t.session k).share }) ∧
      s.RecomputedIf (x.state.started = true) (s.parkedBut r.session false) t)

/-- DONE on a CANCELLING slot: the tag leaves the cancel list and the slot is FREE; the entry its back-reference names is adopted where the
result brings the segment and the entry is WAITING or QUEUED, its re-issue withdrawn, KEPT; in every other case the result is discarded,
CLEARED (R132, R82, R121, R123, R94). Where this DONE ends the occupancy, that a window at its length in force stops one step short of it is
the model's choice of log 12. -/
def Obligations.DoneOnACancelledFetchAdoptsOrDiscards : Prop :=
  ∀ (j : SlotId) (tag : Byte) (result : DoneResult) (total token : BitVec 32) (duration : BitVec 16) (s : State),
    s.inReset = false → s.TagsSound → s.LedgersSound → s.FetchesAgree →
    ∀ back kept owed, s.slot j = .cancelling tag.toNat back kept owed →
      let stays := s.meter.paused = true ∨ ∃ k : SlotId, k ≠ j ∧ (s.slot k).occupying = true
      let adopted := fun (r : EntryRef) (e : Entry) => (result = .complete ∨ result = .truncated) ∧ back = some r ∧
        s.entry? r = some e ∧ (e.state = .waiting ∨ e.state = .queued)
      ∃ t, exec (.done tag result total token duration) s = .next t ∧
        t = { s with
          meter := t.meter
          slots := t.slots
          orderQueue := t.orderQueue
          cancelList := s.cancelList.filter (· != tag.toNat)
          sessions := t.sessions
          sessionNotices := t.sessionNotices
          attn := t.attn
          fetchAnswer := t.fetchAnswer
          fetchRecord := [] } ∧
        t.meter = { s.meter with windowElapsed := t.meter.windowElapsed } ∧
        (stays → t.meter = s.meter) ∧
        (¬stays → t.meter.windowElapsed = min s.meter.windowElapsed (s.meter.windowLength - 1)) ∧
        ((∀ r e, ¬adopted r e) → t.fetchAnswer = some .cleared ∧ t.orderQueue = s.orderQueue ∧
          t.sessions = s.sessions ∧ t.sessionNotices = s.sessionNotices ∧ t.attn = s.attn ∧
          ∀ k : SlotId, t.slot k = if k = j then .free else s.slot k) ∧
        (∀ r e, adopted r e → t.fetchAnswer = some .kept ∧
          (∀ k : SlotId, t.slot k =
            if k == j || (match s.slot k with
              | .queued _ r' => r' == r
              | _ => false) then .free
            else s.slot k) ∧
          t.orderQueue = s.orderQueue.filter (fun k => (t.slot k).isQueued) ∧
          ((s.session r.session).withEntry r.segment
              { e with
                state := .ready
                issue := kept
                tag := none
                notBefore := none
                arrived := total.toNat
                total := some total.toNat
                token := some token
                reported := if duration = 0 then none else some (min duration.toNat 60000)
                short := e.short || result == .truncated }).Settled (s.session r.session).ledger
            (t.session r.session) (s.noticesOf r.session) (t.noticesOf r.session) ∧
          (∀ k : SessionId, k ≠ r.session → t.session k = s.session k ∧ t.noticesOf k = s.noticesOf k))

/-- What the control port and the fetch port shift out, byte by byte: a response is its class, code, detail, length and payload, after a
turnaround byte of 0, a fetch answer its code and fields, and 0s follow either (R172, R175, R187, R117, 11.2, 11.3). Every enumerated value
is sent as the number that 11.2 to 11.6 give it. -/
def Obligations.AnswersAndCodesAreThoseOfTheLayouts : Prop :=
  (∀ (s : State) (count : Nat),
     let zeroAfter := fun (out answer : List Byte) => out.length = count ∧
       (∀ n < count, ∀ b, answer[n]? = some b → out[n]? = some b) ∧ (∀ n < count, answer.length ≤ n → out[n]? = some 0)
     (∀ r, s.inReset = false → s.response = some r → ∃ out, s.controlOut count = some out ∧ zeroAfter out (0 :: r.bytes)) ∧
     (∀ a, s.inReset = false → s.fetchAnswer = some a → ∃ out, s.fetchOut count = some out ∧ zeroAfter out a.bytes)) ∧
  (∀ (n : Nat) (state : SessionState) (i : SessionId) (c : ClientId) (payload : List Byte),
     ∀ row ∈ [(Status.normal, 0, 0, 0), (.clamped n, 0, 1, n), (.unknownRequest, 1, 0, 0), (.length n, 1, 1, n), (.index n, 2, 0, n),
         (.ordering n, 2, 1, n), (.ladder n, 2, 2, n), (.wrongState state, 3, 0, state.code), (.locked n, 3, 1, n), (.ladderEmpty, 3, 2, 1),
         (.reserved, 3, 3, 0), (.clientBound i, 3, 4, i.val), (.sessionBound c, 3, 5, c.val)],
       (Response.mk row.1 payload).bytes.drop 5 = payload ∧
       ∀ field ∈ [(0, 1, row.2.1), (1, 1, row.2.2.1), (2, 2, row.2.2.2), (4, 1, payload.length)],
         beField (Response.mk row.1 payload).bytes field.1 field.2.1 = field.2.2 % 256 ^ field.2.1) ∧
  (∀ (tag : Nat) (i : SessionId) (locator : BitVec 16) (segment expected bitrate : Nat),
     let order := (FetchAnswer.order tag i locator segment expected bitrate).bytes
     order.length = 17 ∧
     (∀ field ∈ [(0, 1, 0x10), (1, 1, tag), (2, 1, i.val), (3, 2, locator.toNat), (5, 4, segment), (9, 4, expected), (13, 4, bitrate)],
       beField order field.1 field.2.1 = field.2.2 % 256 ^ field.2.1) ∧
     (FetchAnswer.cancel tag).bytes = [0x11, BitVec.ofNat 8 tag] ∧ FetchAnswer.nothing.bytes = [0x12] ∧
     FetchAnswer.ack.bytes = [0x20] ∧ FetchAnswer.kept.bytes = [0x21] ∧ FetchAnswer.cleared.bytes = [0x22] ∧
     FetchAnswer.notTaken.bytes = [0x30] ∧ FetchAnswer.unknownTag.bytes = [0x31] ∧ FetchAnswer.badRecord.bytes = [0x32]) ∧
  [SessionState.closed, .opened, .priming, .running, .starved, .draining, .faulted].map SessionState.code = [0, 1, 2, 3, 4, 5, 6] ∧
  [EntryState.waiting, .queued, .active, .ready, .playing].map EntryState.code = [0, 1, 2, 3, 4] ∧
  [Zone.panic, .lean, .steady].map Zone.code = [0, 1, 2] ∧
  [SessionClass.viewed, .background].map SessionClass.code = [0, 1] ∧
  [Pipeline.conservative, .pipelined].map Pipeline.depth = [1, 2] ∧
  [Policy.hold, .descend, .skip, .halt].map Policy.code = [0, 1, 2, 3] ∧
  (∀ r : Nat, [Reservation.unreserved, .pin r, .cap r].map Reservation.kindCode = [0, 1, 2]) ∧
  [SessionKind.playoutReady, .starved, .switched, .skipped, .faulted, .drained, .tainted].map SessionKind.bit = [0, 1, 2, 3, 4, 5, 6] ∧
  [PartKind.congestion, .parking, .fetchProtocol, .clientProtocol, .linkReset].map PartKind.bit = [0, 1, 2, 3, 4] ∧
  (∀ (h : HandedSegment) (w : WaitReason) (r : HaltReason) (f : Bool) (n m : Nat),
     [PlayoutAnswer.noAnswer, .segment h, .wait w f, .halt r f, .notBound, .badRequest, .ignored, .noted n m].map PlayoutAnswer.code
       = [0, 1, 2, 3, 4, 5, 6, 7])

/-- LINK_RESET: every TAKEN and CANCELLING slot FREE, the QUEUED ones and the order queue kept, the cancel list emptied, the tag counter 1, the
Link Meter reinitialised, one recompute, the LINK-RESET notice, ACK; ACTIVE entries WAITING and due now, in a session that winds down
removed as skips (R138, R12, R66, R94). -/
def Obligations.LinkResetFreesEveryFetch : Prop :=
  ∀ s : State, s.inReset = false → s.TagsSound → s.LedgersSound → s.FetchesAgree → s.NoneWaitingWhileWinding →
    s.TaintFollows →
    ∃ t, exec .linkReset s = .next t ∧
      t = { s with
        meter := ⟨s.params.initialEstimate, s.params.initialEstimate, s.params.initialEstimate, 0, 0, s.params.windowLength,
          s.meter.paused, none, 0, 0, s.meter.thinWindows⟩
        slots := t.slots
        cancelList := []
        tagCounter := 1
        sessions := t.sessions
        poolFree := t.poolFree
        usable := t.usable
        parkingInForce := t.parkingInForce
        congested := t.congested
        partNotices := t.partNotices
        sessionNotices := t.sessionNotices
        attn := t.attn
        fetchAnswer := some .ack
        fetchRecord := [] } ∧
      (∀ j : SlotId, t.slot j = if (s.slot j).isQueued then s.slot j else .free) ∧
      State.Recomputed (fun k => (s.session k).parked) { s with partNotices := s.partNotices ||| 16 } t ∧
      t.hasPartNotice .linkReset = true ∧ t.attn = t.enabledMember ∧
      t.poolFree = s.poolFree + (allSessions.map fun i => if (s.session i).state.winding
        then ((s.session i).ledger.filter fun e => e.state == .active).length else 0).sum ∧
      (∀ i : SessionId, (s.session i).state.winding = false →
        t.noticesOf i = s.noticesOf i ∧
        t.session i =
          { s.session i with
            parked := (t.session i).parked
            share := (t.session i).share
            ledger := (s.session i).ledger.map fun e =>
              if e.state = .active then { e with state := .waiting, tag := none, notBefore := some s.now }
              else if e.state = .waiting ∧ (allSlots.any fun j => match s.slot j with
                  | .cancelling _ (some r) _ _ => r == ⟨i, e.segment⟩
                  | _ => false) = true then { e with notBefore := some s.now }
              else e }) ∧
      (∀ i : SessionId, (s.session i).state.winding = true →
        let kept := (s.session i).ledger.filter fun e => e.state != .active
        let gone := (s.session i).ledger.length - kept.length
        { s.session i with
            ledger := kept
            stats := if gone = 0 then (s.session i).stats
              else { (s.session i).stats with skips := min 65535 ((s.session i).stats.skips + gone) }
            parked := (t.session i).parked
            share := (t.session i).share }.Settled (s.session i).ledger (t.session i)
          (s.noticesOf i ||| if gone = 0 then 0 else 8) (t.noticesOf i))

/-- A fetch record the part cannot act on is answered and sets FETCH-PROTOCOL; slots, entries, Link Meter, order queue and cancel list stay, and
so does everything else (R118, R188). The end of a select period drops what is in progress on its port and the answer being shifted out, and
nothing else (R173, R117; logs 10 and 11). -/
def Obligations.RecordsNotActedOnAndReleasesOfSelect : Prop :=
  (∀ s : State, s.inReset = false →
     let refused := fun (c : Instr) (a : FetchAnswer) =>
       ∃ t, exec c s = .next t ∧ t.attn = t.enabledMember ∧
         t = { s with partNotices := s.partNotices ||| 4, attn := t.attn, fetchAnswer := some a, fetchRecord := [] }
     (∀ code : Byte, code.toNat < 1 ∨ 6 < code.toNat → refused (.badRecord (.unknownCode code)) .badRecord) ∧
     (∀ tag result : Byte, result.toNat < 1 ∨ 5 < result.toNat →
       refused (.badRecord (.unknownResult tag result)) .badRecord) ∧
     (∀ (tag : Byte) (count : BitVec 16) (result : DoneResult) (total token : BitVec 32) (duration : BitVec 16),
       ((∀ j : SlotId, (s.slot j).tag? ≠ some tag.toNat) →
         refused (.arrival tag count) .unknownTag ∧ refused (.done tag result total token duration) .unknownTag) ∧
       (s.TagsSound → ∀ (j : SlotId) (r : EntryRef), s.slot j = .queued tag.toNat r →
         refused (.arrival tag count) .notTaken ∧ refused (.done tag result total token duration) .notTaken))) ∧
  (∀ s : State,
     exec .controlFrameDiscard s = .next { s with controlFrame := none, response := none } ∧
     exec .fetchRecordDiscard s = .next { s with fetchRecord := [], fetchAnswer := none })

/-! ### Playout Link Unit -/

/-- NEXT from the client of a session whose head is READY, in a state that hands it: after the release of a PLAYING entry the head becomes
PLAYING, the answer carries its fields and the flags judged against the last handed, the client record and the counter follow; before that,
what the release brings (R163 steps 2 and 8, R164, R165, R84, R167). The state and the head are read as the release leaves them. -/
def Obligations.NextHandsTheReadyHead : Prop :=
  ∀ (c : ClientId) (i : SessionId) (address : PlayoutAddress) (s : State), s.inReset = false →
    address.toNat = s.baseAddress + c.val → s.LedgersSound → (s.client c).binding = some i →
    let u := s.releasePlaying i
    let x := u.session i
    ∀ e rest, x.ledger = e :: rest → e.state = .ready → x.held = false →
      x.state = .running ∨ x.state = .draining ∨ x.state = .faulted →
      let last := (s.client c).lastHanded
      let answer : HandedSegment :=
        { session := i
          segment := e.segment
          rung := e.issue.rung
          bitrate := e.issue.bitrate
          profile := e.issue.profile
          lines := e.issue.lines
          duration := e.reported.getD e.issue.nominal
          total := e.total.getD 0
          token := e.token.getD 0
          switch := last.any fun h => h.bitrate != e.issue.bitrate || h.profile != e.issue.profile
          gap := (s.client c).gapPending || last.any fun h => e.segment != h.segment + 1
          short := e.short
          lowered := e.lowered
          retried := e.retried }
      ∃ t, exec (.next address) s = .next t ∧
        t = { u with sessions := t.sessions, clients := t.clients, playoutWrite := none } ∧
        (∀ k : SessionId, t.session k =
          if k = i then
            { x with
              ledger := { e with state := .playing, remaining := some (e.reported.getD e.issue.nominal) } :: rest
              stats := { x.stats with handed := min 4294967295 (x.stats.handed + 1) } }
          else u.session k) ∧
        (∀ d : ClientId, t.client d =
          if d = c then
            { binding := some i
              flushPending := false
              gapPending := false
              lastHanded := some ⟨e.segment, e.issue.rung, e.issue.bitrate, e.issue.profile⟩
              answer := .segment answer }
          else s.client d)

/-- NEXT in every other case: NOT-BOUND and CLIENT-PROTOCOL from an unbound client; else, after the release, HALT or WAIT with its reason by the
first step of R163 that applies, FLUSHED where a flush is pending, drain completion on an empty DRAINING ledger, starvation of a RUNNING
session without a READY head and the restart test at its end (R163, R60, R67, R166–R168). A bound session is not CLOSED. That a held session
in DRAINING completes the drain at a later NEXT too, if that finds the ledger empty (R191 read with step 4 of R163 and R61), and that the HALT
of drain completion clears the flush-pending flag (R167) although R168 keeps the flags, are the model's choices of logs 25 and 26. -/
def Obligations.NextWaitsOrHalts : Prop :=
  ∀ (c : ClientId) (address : PlayoutAddress) (s : State), s.inReset = false → address.toNat = s.baseAddress + c.val →
    ((s.client c).binding = none →
      ∃ t, exec (.next address) s = .next t ∧ t.attn = t.enabledMember ∧
        t = { s with partNotices := s.partNotices ||| 8, attn := t.attn, clients := t.clients, playoutWrite := none } ∧
        ∀ d : ClientId, t.client d = if d = c then { s.client c with answer := .notBound } else s.client d) ∧
    (∀ i : SessionId, (s.client c).binding = some i → (s.session i).state ≠ .closed →
      let u := s.releasePlaying i
      let x := u.session i
      let ready := x.ledger.head?.any fun e => e.state == .ready
      let answered := fun (v : State) (a : PlayoutAnswer) =>
        exec (.next address) s = .next
          { v.setClient c { s.client c with flushPending := false, answer := a } with playoutWrite := none }
      let flushed := (s.client c).flushPending
      if x.state = .opened then answered u (.halt .idle flushed)
      else if x.state = .draining ∧ x.ledger = [] then
        answered ((u.setSession i { x with state := .opened, held := false }).notify i .drained)
          (.halt .ended flushed)
      else if x.state = .faulted ∧ ready = false then answered u (.halt .fault flushed)
      else if x.state = .priming then answered u (.wait .priming flushed)
      else if x.held then answered u (.wait .held flushed)
      else if x.state = .starved then answered u (.wait .starved flushed)
      else if ready then True
      else if x.state = .draining then answered u (.wait .draining flushed)
      else
        let starved := (u.setSession i
          { x with
            state := .starved
            stats := { x.stats with starvations := min 65535 (x.stats.starvations + 1) } }).notify i .starved
        answered
          (if x.config.restartLevel ≤ bufferedMs x.ledger then
            (starved.setSession i { starved.session i with state := .running }).notify i .playoutReady
          else starved)
          (.wait .starved flushed))

/-- PROGRESS: IGNORED without a PLAYING entry; else its remaining_ms is set, what follows the change is taken, and NOTED carries the new
remaining_ms and buffered_ms; NOT-BOUND from an unbound client (R169, R85, R94). -/
def Obligations.ProgressSetsTheRemainingTime : Prop :=
  ∀ (c : ClientId) (address : PlayoutAddress) (elapsed : BitVec 16) (s : State), s.inReset = false → s.LedgersSound →
    address.toNat = s.baseAddress + c.val →
    let answered := fun (t : State) (a : PlayoutAnswer) =>
      ∀ d : ClientId, t.client d = if d = c then { s.client c with answer := a } else s.client d
    ((s.client c).binding = none →
      ∃ t, exec (.progress address elapsed) s = .next t ∧ t.attn = t.enabledMember ∧ answered t .notBound ∧
        t = { s with partNotices := s.partNotices ||| 8, attn := t.attn, clients := t.clients, playoutWrite := none }) ∧
    (∀ i : SessionId, (s.client c).binding = some i →
      ((∀ e ∈ (s.session i).ledger, e.state ≠ .playing) →
        ∃ t, exec (.progress address elapsed) s = .next t ∧ answered t .ignored ∧
          t = { s with clients := t.clients, playoutWrite := none }) ∧
      (∀ e rest, (s.session i).ledger = e :: rest → e.state = .playing →
        let remaining := e.duration - min elapsed.toNat e.duration
        ∃ t, exec (.progress address elapsed) s = .next t ∧
          answered t (.noted remaining (bufferedMs (t.session i).ledger)) ∧
          t = { s with
            sessions := t.sessions
            sessionNotices := t.sessionNotices
            attn := t.attn
            clients := t.clients
            playoutWrite := none } ∧
          { s.session i with ledger := { e with remaining := some remaining } :: rest }.Settled (s.session i).ledger
            (t.session i) (s.noticesOf i) (t.noticesOf i) ∧
          (∀ k : SessionId, k ≠ i → t.session k = s.session k ∧ t.noticesOf k = s.noticesOf k)))

/-- A read transfer returns the held answer's bytes as 11.4 lays them out, then zeros, and changes no state of the part; the bytes are the
model's output field (R158; log 10). Transfers to an address that is not one of the six are not acknowledged (R157). MALFORMED_TRANSFER:
BAD-REQUEST held and CLIENT-PROTOCOL set, bound or not; nothing else of the client record, the session or its ledger changes (R159). -/
def Obligations.ReadAndMalformedTransfers : Prop :=
  (∀ (address : PlayoutAddress) (s : State), s.inReset = false →
     (∀ (c : ClientId) (count : Nat), address.toNat = s.baseAddress + c.val →
       ∃ bytes, exec (.playoutReadTransfer address count) s = .next { s with playoutOut := bytes } ∧ bytes.length = count ∧
         (∀ n < count, ∀ b, ((s.client c).answer.bytes)[n]? = some b → bytes.getD n 0 = b) ∧
         (∀ n < count, (s.client c).answer.bytes.length ≤ n → bytes.getD n 0 = 0)) ∧
     (∀ h, let p := (PlayoutAnswer.segment h).bytes
       let bit := fun b : Bool => if b then 1 else 0
       p.length = 25 ∧ (∀ row ∈ [(0, 1, 1), (1, 1, h.session.val), (2, 4, h.segment), (6, 1, h.rung), (7, 4, h.bitrate),
           (11, 1, h.profile.toNat), (12, 2, h.lines), (14, 2, h.duration), (16, 4, h.total), (20, 4, h.token.toNat),
           (24, 1, bit h.switch + 2 * bit h.gap + 4 * bit h.short + 8 * bit h.lowered + 16 * bit h.retried)],
         beField p row.1 row.2.1 = row.2.2 % 256 ^ row.2.1)) ∧
     (∀ f : Bool, let mark : Byte := if f then 1 else 0
       (PlayoutAnswer.wait .priming f).bytes = [2, 1, mark] ∧ (PlayoutAnswer.wait .held f).bytes = [2, 2, mark] ∧
       (PlayoutAnswer.wait .starved f).bytes = [2, 3, mark] ∧ (PlayoutAnswer.wait .draining f).bytes = [2, 4, mark] ∧
       (PlayoutAnswer.halt .idle f).bytes = [3, 1, mark] ∧ (PlayoutAnswer.halt .ended f).bytes = [3, 2, mark] ∧
       (PlayoutAnswer.halt .fault f).bytes = [3, 3, mark]) ∧
     (PlayoutAnswer.noAnswer.bytes = [0] ∧ PlayoutAnswer.notBound.bytes = [4] ∧ PlayoutAnswer.badRequest.bytes = [5] ∧
       PlayoutAnswer.ignored.bytes = [6]) ∧
     (∀ remaining buffered, let p := (PlayoutAnswer.noted remaining buffered).bytes
       p.length = 7 ∧ p.getD 0 0 = 7 ∧ beField p 1 2 = remaining % 65536 ∧ beField p 3 4 = buffered % 4294967296) ∧
     ((∀ c : ClientId, address.toNat ≠ s.baseAddress + c.val) →
       (∀ (elapsed : BitVec 16) (count : Nat),
         ∀ i ∈ [Instr.next address, .progress address elapsed, .playoutReadTransfer address count], exec i s = .next s) ∧
       (∀ (code : Byte) (payload : List Byte), (code = 1 → payload ≠ []) → (code = 2 → payload.length ≠ 2) →
         exec (.malformedTransfer address (code :: payload)) s = .next s))) ∧
  (∀ (c : ClientId) (address : PlayoutAddress) (code : Byte) (payload : List Byte) (s : State), s.inReset = false →
     address.toNat = s.baseAddress + c.val →
     (code = 1 → payload ≠ []) → (code = 2 → payload.length ≠ 2) →
     ∃ t, exec (.malformedTransfer address (code :: payload)) s = .next t ∧ t.attn = t.enabledMember ∧
       t = { s with partNotices := s.partNotices ||| 8, attn := t.attn, clients := t.clients, playoutWrite := none } ∧
       ∀ d : ClientId, t.client d = if d = c then { s.client c with answer := .badRequest } else s.client d)

/-! ### Rung Selector and own events -/

/-- The selection runs through its steps: PIN, fit and CAP, start, floor, down or hold, climb, upper bound (R99–R105). The lookup for a held
segment: taken exactly where unavailable-since is present, the policy is HOLD or DESCEND, and an enabled rung has the entry's bitrate below
its upper bound; that rung is the result (R108). -/
def Obligations.SelectionAndLookupFollowTheirSteps : Prop :=
  (∀ (x : Session) (l : Ladder) (bound : Option Nat), l.Valid → l.rungs ≠ [] →
     let free := selectRung x l none
     (∀ p, x.reservation = .pin p → free = p) ∧
     ((∀ p, x.reservation ≠ .pin p) → ∃ within fit, l.IsHighestWithin x.share within ∧
       (x.reservation = .unreserved → fit = within) ∧
       (∀ c, x.reservation = .cap c → ∃ capped, l.IsHighestUpTo c capped ∧ fit = min within capped) ∧
       (x.state = .priming ∨ (x.state = .running ∧ x.currentRung = none) →
         ∃ first, l.IsHighestUpTo x.config.startCap first ∧ free = min fit first) ∧
       (x.state = .starved → free = 0) ∧
       (∀ k, x.state = .running → x.currentRung = some k →
         if bufferedMs x.ledger < x.config.panicLevel then free = 0
         else if fit ≤ k then free = fit
         else ∀ next, l.IsLowestAbove k next →
           free =
             if x.config.steadyLevel ≤ bufferedMs x.ledger ∧ x.config.dwellSetting ≤ x.dwell
                 ∧ l.bitrate next * x.config.upMargin ≤ x.share * 256 then next
             else k)) ∧
     (∀ b, bound = some b →
       if b ≤ l.bitrate free then l.IsHighestWithin (b - 1) (selectRung x l bound) else selectRung x l bound = free)) ∧
  (∀ (x : Session) (l : Ladder) (e : Entry), l.Valid →
     let allowed := e.unavailableSince.isSome = true ∧ (x.config.policy = .hold ∨ x.config.policy = .descend) ∧
       (∀ u ∈ e.upperBound, e.issue.bitrate < u)
     ∀ r, lookupRung x l e = some r ↔
       (allowed ∧ ∃ g, l.rungs[r]? = some g ∧ g.enabled = true ∧ g.bitrate = e.issue.bitrate))

/-- GRANT of the lowest FREE slot to the chosen session without a due entry: a new entry at the ledger's tail, drawn from the pool, at the rung
the selection gives, its order at the queue's tail under the first free tag; the next segment number advances, or the final entry takes the
session to DRAINING with its WAITING entries removed, back-references to them cleared and one recompute (R125–R127, R77, R106, R107, R65,
R66, R86, R89, R94, R120). -/
def Obligations.GrantCreatesANewEntry : Prop :=
  ∀ (j : SlotId) (i : SessionId) (s : State), s.inReset = false →
    s.slot j = .free → (∀ k < j, s.slot k ≠ .free) → s.Chosen i → (∀ e ∈ (s.session i).ledger, ¬e.DueAt s.now) →
    s.TagsSound → s.LedgersSound → s.FetchesAgree → s.LaddersValid → s.RungsWithinLadder →
    let x := s.session i
    let r := selectRung x (s.ladderOf i) none
    let final := decide (x.config.lastSegment = some x.nextSegment ∨ x.nextSegment = 4294967295)
    ∃ t tag issue, exec .grant s = .next t ∧ s.FirstFreeTag tag ∧ (s.ladderOf i).Issues r issue ∧
      t = { s with
        poolFree := t.poolFree
        slots := t.slots
        orderQueue := s.orderQueue ++ [j]
        tagCounter := if tag < 255 then tag + 1 else 1
        lastGranted := i
        sessions := t.sessions
        sessionNotices := t.sessionNotices
        usable := t.usable
        parkingInForce := t.parkingInForce
        congested := t.congested
        partNotices := t.partNotices
        attn := t.attn } ∧
      t.slot j = .queued tag ⟨i, x.nextSegment⟩ ∧
      (let entry : Entry :=
        { segment := x.nextSegment, state := .queued, issue := issue, reported := none, tag := some tag, arrived := 0
          total := none, token := none, attempts := 0, notBefore := none, unavailableSince := none, upperBound := none
          short := false, lowered := false, retried := false, remaining := none }
       let grown := x.ledger ++ [entry]
       let ledger := if final then grown.filter (fun e => e.state != .waiting) else grown
       let gone := grown.length - ledger.length
       let y := x.switchedTo r
       t.poolFree = s.poolFree - 1 + gone ∧
       { y with
          dwell := min 15 (y.dwell + 1)
          ledger := ledger
          nextSegment := if final then x.nextSegment else x.nextSegment + 1
          state := if final then .draining else x.state
          stats := if gone = 0 then y.stats else { y.stats with skips := min 65535 (y.stats.skips + gone) }
          parked := (t.session i).parked
          share := (t.session i).share }.Settled x.ledger (t.session i)
        ((s.noticesOf i ||| x.switchNotice r) ||| if gone = 0 then 0 else 8) (t.noticesOf i)) ∧
      (∀ k : SessionId, k ≠ i → t.noticesOf k = s.noticesOf k ∧
        t.session k = { s.session k with parked := (t.session k).parked, share := (t.session k).share }) ∧
      (∀ k : SlotId, k ≠ j → t.slot k = match s.slot k with
        | .cancelling tag' (some r') kept owed =>
          .cancelling tag' (if final && s.namesLeaving i (fun e => e.state == .waiting) r' then none else some r') kept owed
        | y => y) ∧
      s.RecomputedIf (final = true) (s.parkedBut i (x.parked && !final)) t

/-- GRANT of the lowest FREE slot to the chosen session with a due WAITING entry: the due entry nearest the head is issued again, at the rung of
the lookup, else of the selection under its upper bound; the dwell count and the number stay (R124–R127, R78, R106–R108, R120). -/
def Obligations.GrantReissuesADueEntry : Prop :=
  ∀ (j : SlotId) (i : SessionId) (e : Entry) (before after : List Entry) (s : State), s.inReset = false →
    s.slot j = .free → (∀ k < j, s.slot k ≠ .free) → s.Chosen i →
    (s.session i).ledger = before ++ e :: after → e.DueAt s.now → (∀ e' ∈ before, ¬e'.DueAt s.now) →
    s.TagsSound → s.LedgersSound → s.LaddersValid → s.RungsWithinLadder →
    let x := s.session i
    let l := s.ladderOf i
    let looked := lookupRung x l e
    let r := looked.getD (selectRung x l e.upperBound)
    ∃ t tag issue, exec .grant s = .next t ∧ s.FirstFreeTag tag ∧ l.Issues r issue ∧
      t = { s with
        slots := t.slots
        orderQueue := s.orderQueue ++ [j]
        tagCounter := if tag < 255 then tag + 1 else 1
        lastGranted := i
        sessions := t.sessions
        sessionNotices := t.sessionNotices
        attn := t.attn } ∧
      (∀ k : SlotId, t.slot k = if k = j then .queued tag ⟨i, e.segment⟩ else s.slot k) ∧
      { (if looked.isSome then x else x.switchedTo r) with
          ledger := before ++
            { e with state := .queued, issue := issue, arrived := 0, tag := some tag, notBefore := none } :: after
        }.Settled x.ledger (t.session i)
        (s.noticesOf i ||| if looked.isSome then 0 else x.switchNotice r) (t.noticesOf i) ∧
      (∀ k : SessionId, k ≠ i → t.session k = s.session k ∧ t.noticesOf k = s.noticesOf k)

/-- STALL_WATCHDOG_EXPIRY of a TAKEN slot at its limit, while the link is not paused: the fetch cancelled with the back-reference kept, F
halved, the stall counted, one failure charged, a recompute exactly where C differs (R136, R9, R22, R135, R149). With attempts left the
entry is WAITING and due now, or, in a session that winds down, removed as a skip (R66, R153, R154); without, the outcome of R150 is
applied, and the watchdogs due with this one whose fetches a fault cancels stay to expire. The expiry of such a slot halves F once more and
nothing else (R9, R136), how it comes being the model's choice of log 23. Before its time nothing happens: the model's choice of log 4. -/
def Obligations.StallWatchdogExpires : Prop :=
  ∀ (j : SlotId) (s : State), s.inReset = false →
    let fast := max 64 (s.meter.fast / 2)
    let meter := { s.meter with
      fast := fast
      capacity := min fast s.meter.slow
      halvings := min 65535 (s.meter.halvings + 1) }
    let budget := fun t : State => s.RecomputedIf (meter.capacity ≠ s.meter.capacity) (fun k => (s.session k).parked) t
    let others := fun (i : SessionId) (t : State) => ∀ k : SessionId, k ≠ i → t.noticesOf k = s.noticesOf k ∧
      t.session k = { s.session k with parked := (t.session k).parked, share := (t.session k).share }
    ((∀ tag r elapsed limit, s.slot j = .taken tag r elapsed limit → s.meter.paused = true ∨ elapsed < limit) →
      (∀ tag back kept, s.slot j = .cancelling tag back kept true → s.meter.paused = true) →
      exec (.stallWatchdogExpiry j) s = .next s) ∧
    (∀ tag back kept, s.slot j = .cancelling tag back kept true → s.meter.paused = false →
      ∃ t, exec (.stallWatchdogExpiry j) s = .next t ∧
        t = { s with
          meter := meter
          slots := t.slots
          sessions := t.sessions
          usable := t.usable
          parkingInForce := t.parkingInForce
          congested := t.congested
          partNotices := t.partNotices
          attn := t.attn } ∧
        (∀ k : SlotId, t.slot k = if k = j then .cancelling tag back kept false else s.slot k) ∧
        (∀ k : SessionId, t.session k =
          { s.session k with parked := (t.session k).parked, share := (t.session k).share }) ∧
        budget t ∧ s.AttnFollows t) ∧
    (∀ tag r elapsed limit e, s.slot j = .taken tag r elapsed limit → limit ≤ elapsed → s.meter.paused = false →
      s.LedgersSound → s.TagsSound → s.FetchesAgree → s.TaintFollows → s.entry? r = some e →
      let x := s.session r.session
      let stats := { x.stats with stalls := min 65535 (x.stats.stalls + 1) }
      (x.state.started = true → e.attempts + 1 ≤ x.config.retryLimit →
        ∃ t, exec (.stallWatchdogExpiry j) s = .next t ∧
          t = { s with
            meter := meter
            slots := t.slots
            cancelList := s.cancelList ++ [tag]
            sessions := t.sessions
            usable := t.usable
            parkingInForce := t.parkingInForce
            congested := t.congested
            partNotices := t.partNotices
            attn := t.attn } ∧
          (∀ k : SlotId, t.slot k = if k = j then .cancelling tag (some r) e.issue false else s.slot k) ∧
          t.session r.session =
            { x.withEntry r.segment
                { e with
                  state := .waiting
                  tag := none
                  notBefore := some s.now
                  attempts := e.attempts + 1
                  retried := true } with
              stats := stats
              parked := (t.session r.session).parked
              share := (t.session r.session).share } ∧
          others r.session t ∧ budget t ∧ s.AttnFollows t) ∧
      (x.state.winding = true → s.NoneWaitingWhileWinding → e.attempts + 1 ≤ x.config.retryLimit →
        ∃ t, exec (.stallWatchdogExpiry j) s = .next t ∧
          t = { s with
            meter := meter
            slots := t.slots
            cancelList := s.cancelList ++ [tag]
            poolFree := s.poolFree + 1
            sessions := t.sessions
            usable := t.usable
            parkingInForce := t.parkingInForce
            congested := t.congested
            partNotices := t.partNotices
            sessionNotices := t.sessionNotices
            attn := t.attn } ∧
          (∀ k : SlotId, t.slot k = if k = j then .cancelling tag none e.issue false else
            match s.slot k with
            | .cancelling tag' (some r') kept owed => .cancelling tag' (if r' = r then none else some r') kept owed
            | y => y) ∧
          { x with
              ledger := x.ledger.filter fun e' => e'.segment != r.segment
              stats := { stats with skips := min 65535 (stats.skips + 1) }
              parked := (t.session r.session).parked
              share := (t.session r.session).share }.Settled x.ledger (t.session r.session)
            (s.noticesOf r.session ||| 8) (t.noticesOf r.session) ∧
          others r.session t ∧ budget t ∧ t.attn = t.enabledMember) ∧
      (x.config.retryLimit < e.attempts + 1 →
        let u := (((s.cancelSlot j true).present meter).countStall r.session).updateEntry r fun e =>
          { e with attempts := e.attempts + 1, retried := true }
        let v := (u.applyOutcome r (if x.config.policy = .skip then .skip else .fault)).settle r.session x.ledger
        ∃ t, exec (.stallWatchdogExpiry j) s = .next t ∧ t = { v with slots := t.slots } ∧
          ∀ k : SlotId, t.slot k = match v.slot k, s.slot k with
            | .cancelling tag' back kept _, .taken _ _ elapsed' limit' =>
              .cancelling tag' back kept (decide (k ≠ j) && decide (limit' ≤ elapsed'))
            | y, _ => y))

/-- NOT_BEFORE_REACHED stores nothing; from the moment now has reached it, the entry is due, and its session, started, not parked and below its
pipeline depth, is a candidate (R155, R124; log 14). GRANT with no FREE slot or no candidate: nothing (R125; log 4). -/
def Obligations.NotBeforeReachedAndGrantsWithoutACandidate : Prop :=
  (∀ (i : SessionId) (segment : BitVec 32) (s : State), s.inReset = false →
     exec (.notBeforeReached i segment) s = .next s ∧
     (∀ e ∈ (s.session i).ledger, e.segment = segment.toNat → e.state = .waiting → (∃ due ∈ e.notBefore, due ≤ s.now) →
       (s.session i).state.started = true → (s.session i).parked = false →
       ((s.session i).ledger.filter fun e => e.state == .queued || e.state == .active).length
         < (s.session i).config.pipeline.depth →
       s.isCandidate i = true)) ∧
  (∀ s : State, s.inReset = false →
     ((∀ j : SlotId, s.slot j ≠ .free) ∨ (∀ i : SessionId, ¬s.Candidate i)) → exec .grant s = .next s)

/-! ### What every step keeps -/

/-- Every step keeps link parameters and Link Meter in their ranges, C the lesser of F and L, the window within its length (R8, R13, R15). -/
def Obligations.StepKeepsTheLinkInRange : Prop :=
  ∀ s t : State, s.LinkInRange → step s = .next t → t.LinkInRange

/-- Every step keeps U, the shares and the congested flag what R20, R24 and R30 make of the state: no cause of a recompute is missed (R22). -/
def Obligations.StepKeepsTheBudgetCurrent : Prop :=
  ∀ s t : State, s.BudgetCurrent → step s = .next t → t.BudgetCurrent

/-- Every step keeps exactly the started BACKGROUND sessions parked while parking is in force (R25–R28). Every step leaves neither parking
action due where none was due before it: no recompute that the rules ask for misses its parking step (R21, R22, R25, R27). -/
def Obligations.StepKeepsParkingConsistent : Prop :=
  (∀ s t : State, s.ParkingConsistent → step s = .next t → t.ParkingConsistent) ∧
  (∀ s t : State, s.NoParkingDue → step s = .next t → t.NoParkingDue)

/-- Every step keeps every ladder slot a ladder of R33 and the staging buffers in their canonical form. -/
def Obligations.StepKeepsTheLadderStoreSound : Prop :=
  ∀ s t : State, s.LaddersValid → s.StagingSound → step s = .next t → t.LaddersValid ∧ t.StagingSound

/-- Every step keeps the current rung and the reserved rung of a session that is not CLOSED within its ladder (R43, R44, R56), in a state whose
ledgers are sound: a CLOSED session has no entry (R51), so that no end of a fetch takes it out of CLOSED. -/
def Obligations.StepKeepsRungsWithinTheirLadder : Prop :=
  ∀ s t : State, s.RungsWithinLadder → s.LedgersSound → step s = .next t → t.RungsWithinLadder

/-- Every step keeps the session records in their ranges and orders, and a session in OPEN unheld (R52, R55, R58, R65, R73, R107). -/
def Obligations.StepKeepsSessionsInRange : Prop :=
  ∀ s t : State, s.SessionsInRange → s.OpenUnheld → step s = .next t → t.SessionsInRange ∧ t.OpenUnheld

/-- Every step keeps the 48 entries: what leaves the pool is in a ledger, what leaves a ledger is in the pool (R86, R89). -/
def Obligations.StepKeepsThePool : Prop :=
  ∀ s t : State, s.PoolConserved → step s = .next t → t.PoolConserved

/-- Every step keeps the ledgers in segment order below the next segment number, empty in CLOSED and OPEN, PLAYING only at the head (R51, R65,
R84, R87). -/
def Obligations.StepKeepsTheLedgersSound : Prop :=
  ∀ s t : State, s.LedgersSound → step s = .next t → t.LedgersSound

/-- Every step keeps a session in DRAINING or FAULTED free of WAITING entries, and the tainted flag with the SHORT entries (R66, R95). -/
def Obligations.StepKeepsWindingAndTaint : Prop :=
  (∀ s t : State, s.NoneWaitingWhileWinding → step s = .next t → t.NoneWaitingWhileWinding) ∧
  (∀ s t : State, s.TaintFollows → step s = .next t → t.TaintFollows)

/-- Every step keeps the tags unique, the order queue the QUEUED slots and the cancel list tags of CANCELLING slots (R120, R123). -/
def Obligations.StepKeepsTheTagsSound : Prop :=
  ∀ s t : State, s.TagsSound → step s = .next t → t.TagsSound

/-- Every step keeps the slots and the ledgers agreed: each order and each fetch names its entry, each QUEUED or ACTIVE entry has its slot, no
back-reference names an entry that has left (R76, R86, R119). -/
def Obligations.StepKeepsFetchesAgreed : Prop :=
  ∀ s t : State, s.LedgersSound → s.TagsSound → s.FetchesAgree → step s = .next t → t.FetchesAgree

/-- Every step keeps bindings one to one and off CLOSED sessions, and the record of an unbound client clear (R160–R162). ATTN is driven exactly
while the notice set holds a member of an enabled kind: every step keeps it so (R182). -/
def Obligations.StepKeepsBindingsSoundAndAttnJudged : Prop :=
  (∀ s t : State, s.BindingsSound → step s = .next t → t.BindingsSound) ∧
  (∀ s t : State, s.AttnJudged → step s = .next t → t.AttnJudged)
end

