-- ==== Sys2Proof/Laws/State.lean ====
section
/-! SUPPORT. One lemma per field per update of the state, and the records that the numbered updates leave. -/

namespace Sys2Proof.Machine

/-! ### `State.setSession` -/

@[simp] theorem State.setSession_params (s : State) (i : SessionId) (x : Session) : (s.setSession i x).params = s.params := rfl
@[simp] theorem State.setSession_meter (s : State) (i : SessionId) (x : Session) : (s.setSession i x).meter = s.meter := rfl
@[simp] theorem State.setSession_usable (s : State) (i : SessionId) (x : Session) : (s.setSession i x).usable = s.usable := rfl
@[simp] theorem State.setSession_parkingInForce (s : State) (i : SessionId) (x : Session) : (s.setSession i x).parkingInForce = s.parkingInForce := rfl
@[simp] theorem State.setSession_congested (s : State) (i : SessionId) (x : Session) : (s.setSession i x).congested = s.congested := rfl
@[simp] theorem State.setSession_ladders (s : State) (i : SessionId) (x : Session) : (s.setSession i x).ladders = s.ladders := rfl
@[simp] theorem State.setSession_stagingA (s : State) (i : SessionId) (x : Session) : (s.setSession i x).stagingA = s.stagingA := rfl
@[simp] theorem State.setSession_stagingB (s : State) (i : SessionId) (x : Session) : (s.setSession i x).stagingB = s.stagingB := rfl
@[simp] theorem State.setSession_poolFree (s : State) (i : SessionId) (x : Session) : (s.setSession i x).poolFree = s.poolFree := rfl
@[simp] theorem State.setSession_slots (s : State) (i : SessionId) (x : Session) : (s.setSession i x).slots = s.slots := rfl
@[simp] theorem State.setSession_tagCounter (s : State) (i : SessionId) (x : Session) : (s.setSession i x).tagCounter = s.tagCounter := rfl
@[simp] theorem State.setSession_orderQueue (s : State) (i : SessionId) (x : Session) : (s.setSession i x).orderQueue = s.orderQueue := rfl
@[simp] theorem State.setSession_cancelList (s : State) (i : SessionId) (x : Session) : (s.setSession i x).cancelList = s.cancelList := rfl
@[simp] theorem State.setSession_lastGranted (s : State) (i : SessionId) (x : Session) : (s.setSession i x).lastGranted = s.lastGranted := rfl
@[simp] theorem State.setSession_clients (s : State) (i : SessionId) (x : Session) : (s.setSession i x).clients = s.clients := rfl
@[simp] theorem State.setSession_baseAddress (s : State) (i : SessionId) (x : Session) : (s.setSession i x).baseAddress = s.baseAddress := rfl
@[simp] theorem State.setSession_controlFrame (s : State) (i : SessionId) (x : Session) : (s.setSession i x).controlFrame = s.controlFrame := rfl
@[simp] theorem State.setSession_response (s : State) (i : SessionId) (x : Session) : (s.setSession i x).response = s.response := rfl
@[simp] theorem State.setSession_sessionNotices (s : State) (i : SessionId) (x : Session) : (s.setSession i x).sessionNotices = s.sessionNotices := rfl
@[simp] theorem State.setSession_partNotices (s : State) (i : SessionId) (x : Session) : (s.setSession i x).partNotices = s.partNotices := rfl
@[simp] theorem State.setSession_noticeEnable (s : State) (i : SessionId) (x : Session) : (s.setSession i x).noticeEnable = s.noticeEnable := rfl
@[simp] theorem State.setSession_attn (s : State) (i : SessionId) (x : Session) : (s.setSession i x).attn = s.attn := rfl
@[simp] theorem State.setSession_inReset (s : State) (i : SessionId) (x : Session) : (s.setSession i x).inReset = s.inReset := rfl
@[simp] theorem State.setSession_fetchRecord (s : State) (i : SessionId) (x : Session) : (s.setSession i x).fetchRecord = s.fetchRecord := rfl
@[simp] theorem State.setSession_fetchAnswer (s : State) (i : SessionId) (x : Session) : (s.setSession i x).fetchAnswer = s.fetchAnswer := rfl
@[simp] theorem State.setSession_playoutWrite (s : State) (i : SessionId) (x : Session) : (s.setSession i x).playoutWrite = s.playoutWrite := rfl
@[simp] theorem State.setSession_playoutOut (s : State) (i : SessionId) (x : Session) : (s.setSession i x).playoutOut = s.playoutOut := rfl
@[simp] theorem State.setSession_now (s : State) (i : SessionId) (x : Session) : (s.setSession i x).now = s.now := rfl
@[simp] theorem State.setSession_openChoices (s : State) (i : SessionId) (x : Session) : (s.setSession i x).openChoices = s.openChoices := rfl
@[simp] theorem State.setSession_pending (s : State) (i : SessionId) (x : Session) : (s.setSession i x).pending = s.pending := rfl

/-! ### `State.modifySession` -/

@[simp] theorem State.modifySession_params (s : State) (i : SessionId) (f : Session → Session) : (s.modifySession i f).params = s.params := rfl
@[simp] theorem State.modifySession_meter (s : State) (i : SessionId) (f : Session → Session) : (s.modifySession i f).meter = s.meter := rfl
@[simp] theorem State.modifySession_usable (s : State) (i : SessionId) (f : Session → Session) : (s.modifySession i f).usable = s.usable := rfl
@[simp] theorem State.modifySession_parkingInForce (s : State) (i : SessionId) (f : Session → Session) : (s.modifySession i f).parkingInForce = s.parkingInForce := rfl
@[simp] theorem State.modifySession_congested (s : State) (i : SessionId) (f : Session → Session) : (s.modifySession i f).congested = s.congested := rfl
@[simp] theorem State.modifySession_ladders (s : State) (i : SessionId) (f : Session → Session) : (s.modifySession i f).ladders = s.ladders := rfl
@[simp] theorem State.modifySession_stagingA (s : State) (i : SessionId) (f : Session → Session) : (s.modifySession i f).stagingA = s.stagingA := rfl
@[simp] theorem State.modifySession_stagingB (s : State) (i : SessionId) (f : Session → Session) : (s.modifySession i f).stagingB = s.stagingB := rfl
@[simp] theorem State.modifySession_poolFree (s : State) (i : SessionId) (f : Session → Session) : (s.modifySession i f).poolFree = s.poolFree := rfl
@[simp] theorem State.modifySession_slots (s : State) (i : SessionId) (f : Session → Session) : (s.modifySession i f).slots = s.slots := rfl
@[simp] theorem State.modifySession_tagCounter (s : State) (i : SessionId) (f : Session → Session) : (s.modifySession i f).tagCounter = s.tagCounter := rfl
@[simp] theorem State.modifySession_orderQueue (s : State) (i : SessionId) (f : Session → Session) : (s.modifySession i f).orderQueue = s.orderQueue := rfl
@[simp] theorem State.modifySession_cancelList (s : State) (i : SessionId) (f : Session → Session) : (s.modifySession i f).cancelList = s.cancelList := rfl
@[simp] theorem State.modifySession_lastGranted (s : State) (i : SessionId) (f : Session → Session) : (s.modifySession i f).lastGranted = s.lastGranted := rfl
@[simp] theorem State.modifySession_clients (s : State) (i : SessionId) (f : Session → Session) : (s.modifySession i f).clients = s.clients := rfl
@[simp] theorem State.modifySession_baseAddress (s : State) (i : SessionId) (f : Session → Session) : (s.modifySession i f).baseAddress = s.baseAddress := rfl
@[simp] theorem State.modifySession_controlFrame (s : State) (i : SessionId) (f : Session → Session) : (s.modifySession i f).controlFrame = s.controlFrame := rfl
@[simp] theorem State.modifySession_response (s : State) (i : SessionId) (f : Session → Session) : (s.modifySession i f).response = s.response := rfl
@[simp] theorem State.modifySession_sessionNotices (s : State) (i : SessionId) (f : Session → Session) : (s.modifySession i f).sessionNotices = s.sessionNotices := rfl
@[simp] theorem State.modifySession_partNotices (s : State) (i : SessionId) (f : Session → Session) : (s.modifySession i f).partNotices = s.partNotices := rfl
@[simp] theorem State.modifySession_noticeEnable (s : State) (i : SessionId) (f : Session → Session) : (s.modifySession i f).noticeEnable = s.noticeEnable := rfl
@[simp] theorem State.modifySession_attn (s : State) (i : SessionId) (f : Session → Session) : (s.modifySession i f).attn = s.attn := rfl
@[simp] theorem State.modifySession_inReset (s : State) (i : SessionId) (f : Session → Session) : (s.modifySession i f).inReset = s.inReset := rfl
@[simp] theorem State.modifySession_fetchRecord (s : State) (i : SessionId) (f : Session → Session) : (s.modifySession i f).fetchRecord = s.fetchRecord := rfl
@[simp] theorem State.modifySession_fetchAnswer (s : State) (i : SessionId) (f : Session → Session) : (s.modifySession i f).fetchAnswer = s.fetchAnswer := rfl
@[simp] theorem State.modifySession_playoutWrite (s : State) (i : SessionId) (f : Session → Session) : (s.modifySession i f).playoutWrite = s.playoutWrite := rfl
@[simp] theorem State.modifySession_playoutOut (s : State) (i : SessionId) (f : Session → Session) : (s.modifySession i f).playoutOut = s.playoutOut := rfl
@[simp] theorem State.modifySession_now (s : State) (i : SessionId) (f : Session → Session) : (s.modifySession i f).now = s.now := rfl
@[simp] theorem State.modifySession_openChoices (s : State) (i : SessionId) (f : Session → Session) : (s.modifySession i f).openChoices = s.openChoices := rfl
@[simp] theorem State.modifySession_pending (s : State) (i : SessionId) (f : Session → Session) : (s.modifySession i f).pending = s.pending := rfl

/-! ### `State.setSlot` -/

@[simp] theorem State.setSlot_params (s : State) (j : SlotId) (x : Slot) : (s.setSlot j x).params = s.params := rfl
@[simp] theorem State.setSlot_meter (s : State) (j : SlotId) (x : Slot) : (s.setSlot j x).meter = s.meter := rfl
@[simp] theorem State.setSlot_usable (s : State) (j : SlotId) (x : Slot) : (s.setSlot j x).usable = s.usable := rfl
@[simp] theorem State.setSlot_parkingInForce (s : State) (j : SlotId) (x : Slot) : (s.setSlot j x).parkingInForce = s.parkingInForce := rfl
@[simp] theorem State.setSlot_congested (s : State) (j : SlotId) (x : Slot) : (s.setSlot j x).congested = s.congested := rfl
@[simp] theorem State.setSlot_ladders (s : State) (j : SlotId) (x : Slot) : (s.setSlot j x).ladders = s.ladders := rfl
@[simp] theorem State.setSlot_stagingA (s : State) (j : SlotId) (x : Slot) : (s.setSlot j x).stagingA = s.stagingA := rfl
@[simp] theorem State.setSlot_stagingB (s : State) (j : SlotId) (x : Slot) : (s.setSlot j x).stagingB = s.stagingB := rfl
@[simp] theorem State.setSlot_sessions (s : State) (j : SlotId) (x : Slot) : (s.setSlot j x).sessions = s.sessions := rfl
@[simp] theorem State.setSlot_poolFree (s : State) (j : SlotId) (x : Slot) : (s.setSlot j x).poolFree = s.poolFree := rfl
@[simp] theorem State.setSlot_tagCounter (s : State) (j : SlotId) (x : Slot) : (s.setSlot j x).tagCounter = s.tagCounter := rfl
@[simp] theorem State.setSlot_orderQueue (s : State) (j : SlotId) (x : Slot) : (s.setSlot j x).orderQueue = s.orderQueue := rfl
@[simp] theorem State.setSlot_cancelList (s : State) (j : SlotId) (x : Slot) : (s.setSlot j x).cancelList = s.cancelList := rfl
@[simp] theorem State.setSlot_lastGranted (s : State) (j : SlotId) (x : Slot) : (s.setSlot j x).lastGranted = s.lastGranted := rfl
@[simp] theorem State.setSlot_clients (s : State) (j : SlotId) (x : Slot) : (s.setSlot j x).clients = s.clients := rfl
@[simp] theorem State.setSlot_baseAddress (s : State) (j : SlotId) (x : Slot) : (s.setSlot j x).baseAddress = s.baseAddress := rfl
@[simp] theorem State.setSlot_controlFrame (s : State) (j : SlotId) (x : Slot) : (s.setSlot j x).controlFrame = s.controlFrame := rfl
@[simp] theorem State.setSlot_response (s : State) (j : SlotId) (x : Slot) : (s.setSlot j x).response = s.response := rfl
@[simp] theorem State.setSlot_sessionNotices (s : State) (j : SlotId) (x : Slot) : (s.setSlot j x).sessionNotices = s.sessionNotices := rfl
@[simp] theorem State.setSlot_partNotices (s : State) (j : SlotId) (x : Slot) : (s.setSlot j x).partNotices = s.partNotices := rfl
@[simp] theorem State.setSlot_noticeEnable (s : State) (j : SlotId) (x : Slot) : (s.setSlot j x).noticeEnable = s.noticeEnable := rfl
@[simp] theorem State.setSlot_attn (s : State) (j : SlotId) (x : Slot) : (s.setSlot j x).attn = s.attn := rfl
@[simp] theorem State.setSlot_inReset (s : State) (j : SlotId) (x : Slot) : (s.setSlot j x).inReset = s.inReset := rfl
@[simp] theorem State.setSlot_fetchRecord (s : State) (j : SlotId) (x : Slot) : (s.setSlot j x).fetchRecord = s.fetchRecord := rfl
@[simp] theorem State.setSlot_fetchAnswer (s : State) (j : SlotId) (x : Slot) : (s.setSlot j x).fetchAnswer = s.fetchAnswer := rfl
@[simp] theorem State.setSlot_playoutWrite (s : State) (j : SlotId) (x : Slot) : (s.setSlot j x).playoutWrite = s.playoutWrite := rfl
@[simp] theorem State.setSlot_playoutOut (s : State) (j : SlotId) (x : Slot) : (s.setSlot j x).playoutOut = s.playoutOut := rfl
@[simp] theorem State.setSlot_now (s : State) (j : SlotId) (x : Slot) : (s.setSlot j x).now = s.now := rfl
@[simp] theorem State.setSlot_openChoices (s : State) (j : SlotId) (x : Slot) : (s.setSlot j x).openChoices = s.openChoices := rfl
@[simp] theorem State.setSlot_pending (s : State) (j : SlotId) (x : Slot) : (s.setSlot j x).pending = s.pending := rfl

/-! ### `State.freeSlotAt` -/

@[simp] theorem State.freeSlotAt_params (s : State) (j : SlotId) : (s.freeSlotAt j).params = s.params := rfl
@[simp] theorem State.freeSlotAt_meter (s : State) (j : SlotId) : (s.freeSlotAt j).meter = s.meter := rfl
@[simp] theorem State.freeSlotAt_usable (s : State) (j : SlotId) : (s.freeSlotAt j).usable = s.usable := rfl
@[simp] theorem State.freeSlotAt_parkingInForce (s : State) (j : SlotId) : (s.freeSlotAt j).parkingInForce = s.parkingInForce := rfl
@[simp] theorem State.freeSlotAt_congested (s : State) (j : SlotId) : (s.freeSlotAt j).congested = s.congested := rfl
@[simp] theorem State.freeSlotAt_ladders (s : State) (j : SlotId) : (s.freeSlotAt j).ladders = s.ladders := rfl
@[simp] theorem State.freeSlotAt_stagingA (s : State) (j : SlotId) : (s.freeSlotAt j).stagingA = s.stagingA := rfl
@[simp] theorem State.freeSlotAt_stagingB (s : State) (j : SlotId) : (s.freeSlotAt j).stagingB = s.stagingB := rfl
@[simp] theorem State.freeSlotAt_sessions (s : State) (j : SlotId) : (s.freeSlotAt j).sessions = s.sessions := rfl
@[simp] theorem State.freeSlotAt_poolFree (s : State) (j : SlotId) : (s.freeSlotAt j).poolFree = s.poolFree := rfl
@[simp] theorem State.freeSlotAt_tagCounter (s : State) (j : SlotId) : (s.freeSlotAt j).tagCounter = s.tagCounter := rfl
@[simp] theorem State.freeSlotAt_orderQueue (s : State) (j : SlotId) : (s.freeSlotAt j).orderQueue = s.orderQueue := rfl
@[simp] theorem State.freeSlotAt_cancelList (s : State) (j : SlotId) : (s.freeSlotAt j).cancelList = s.cancelList := rfl
@[simp] theorem State.freeSlotAt_lastGranted (s : State) (j : SlotId) : (s.freeSlotAt j).lastGranted = s.lastGranted := rfl
@[simp] theorem State.freeSlotAt_clients (s : State) (j : SlotId) : (s.freeSlotAt j).clients = s.clients := rfl
@[simp] theorem State.freeSlotAt_baseAddress (s : State) (j : SlotId) : (s.freeSlotAt j).baseAddress = s.baseAddress := rfl
@[simp] theorem State.freeSlotAt_controlFrame (s : State) (j : SlotId) : (s.freeSlotAt j).controlFrame = s.controlFrame := rfl
@[simp] theorem State.freeSlotAt_response (s : State) (j : SlotId) : (s.freeSlotAt j).response = s.response := rfl
@[simp] theorem State.freeSlotAt_sessionNotices (s : State) (j : SlotId) : (s.freeSlotAt j).sessionNotices = s.sessionNotices := rfl
@[simp] theorem State.freeSlotAt_partNotices (s : State) (j : SlotId) : (s.freeSlotAt j).partNotices = s.partNotices := rfl
@[simp] theorem State.freeSlotAt_noticeEnable (s : State) (j : SlotId) : (s.freeSlotAt j).noticeEnable = s.noticeEnable := rfl
@[simp] theorem State.freeSlotAt_attn (s : State) (j : SlotId) : (s.freeSlotAt j).attn = s.attn := rfl
@[simp] theorem State.freeSlotAt_inReset (s : State) (j : SlotId) : (s.freeSlotAt j).inReset = s.inReset := rfl
@[simp] theorem State.freeSlotAt_fetchRecord (s : State) (j : SlotId) : (s.freeSlotAt j).fetchRecord = s.fetchRecord := rfl
@[simp] theorem State.freeSlotAt_fetchAnswer (s : State) (j : SlotId) : (s.freeSlotAt j).fetchAnswer = s.fetchAnswer := rfl
@[simp] theorem State.freeSlotAt_playoutWrite (s : State) (j : SlotId) : (s.freeSlotAt j).playoutWrite = s.playoutWrite := rfl
@[simp] theorem State.freeSlotAt_playoutOut (s : State) (j : SlotId) : (s.freeSlotAt j).playoutOut = s.playoutOut := rfl
@[simp] theorem State.freeSlotAt_now (s : State) (j : SlotId) : (s.freeSlotAt j).now = s.now := rfl
@[simp] theorem State.freeSlotAt_openChoices (s : State) (j : SlotId) : (s.freeSlotAt j).openChoices = s.openChoices := rfl
@[simp] theorem State.freeSlotAt_pending (s : State) (j : SlotId) : (s.freeSlotAt j).pending = s.pending := rfl

/-! ### `State.setClient` -/

@[simp] theorem State.setClient_params (s : State) (c : ClientId) (x : Client) : (s.setClient c x).params = s.params := rfl
@[simp] theorem State.setClient_meter (s : State) (c : ClientId) (x : Client) : (s.setClient c x).meter = s.meter := rfl
@[simp] theorem State.setClient_usable (s : State) (c : ClientId) (x : Client) : (s.setClient c x).usable = s.usable := rfl
@[simp] theorem State.setClient_parkingInForce (s : State) (c : ClientId) (x : Client) : (s.setClient c x).parkingInForce = s.parkingInForce := rfl
@[simp] theorem State.setClient_congested (s : State) (c : ClientId) (x : Client) : (s.setClient c x).congested = s.congested := rfl
@[simp] theorem State.setClient_ladders (s : State) (c : ClientId) (x : Client) : (s.setClient c x).ladders = s.ladders := rfl
@[simp] theorem State.setClient_stagingA (s : State) (c : ClientId) (x : Client) : (s.setClient c x).stagingA = s.stagingA := rfl
@[simp] theorem State.setClient_stagingB (s : State) (c : ClientId) (x : Client) : (s.setClient c x).stagingB = s.stagingB := rfl
@[simp] theorem State.setClient_sessions (s : State) (c : ClientId) (x : Client) : (s.setClient c x).sessions = s.sessions := rfl
@[simp] theorem State.setClient_poolFree (s : State) (c : ClientId) (x : Client) : (s.setClient c x).poolFree = s.poolFree := rfl
@[simp] theorem State.setClient_slots (s : State) (c : ClientId) (x : Client) : (s.setClient c x).slots = s.slots := rfl
@[simp] theorem State.setClient_tagCounter (s : State) (c : ClientId) (x : Client) : (s.setClient c x).tagCounter = s.tagCounter := rfl
@[simp] theorem State.setClient_orderQueue (s : State) (c : ClientId) (x : Client) : (s.setClient c x).orderQueue = s.orderQueue := rfl
@[simp] theorem State.setClient_cancelList (s : State) (c : ClientId) (x : Client) : (s.setClient c x).cancelList = s.cancelList := rfl
@[simp] theorem State.setClient_lastGranted (s : State) (c : ClientId) (x : Client) : (s.setClient c x).lastGranted = s.lastGranted := rfl
@[simp] theorem State.setClient_baseAddress (s : State) (c : ClientId) (x : Client) : (s.setClient c x).baseAddress = s.baseAddress := rfl
@[simp] theorem State.setClient_controlFrame (s : State) (c : ClientId) (x : Client) : (s.setClient c x).controlFrame = s.controlFrame := rfl
@[simp] theorem State.setClient_response (s : State) (c : ClientId) (x : Client) : (s.setClient c x).response = s.response := rfl
@[simp] theorem State.setClient_sessionNotices (s : State) (c : ClientId) (x : Client) : (s.setClient c x).sessionNotices = s.sessionNotices := rfl
@[simp] theorem State.setClient_partNotices (s : State) (c : ClientId) (x : Client) : (s.setClient c x).partNotices = s.partNotices := rfl
@[simp] theorem State.setClient_noticeEnable (s : State) (c : ClientId) (x : Client) : (s.setClient c x).noticeEnable = s.noticeEnable := rfl
@[simp] theorem State.setClient_attn (s : State) (c : ClientId) (x : Client) : (s.setClient c x).attn = s.attn := rfl
@[simp] theorem State.setClient_inReset (s : State) (c : ClientId) (x : Client) : (s.setClient c x).inReset = s.inReset := rfl
@[simp] theorem State.setClient_fetchRecord (s : State) (c : ClientId) (x : Client) : (s.setClient c x).fetchRecord = s.fetchRecord := rfl
@[simp] theorem State.setClient_fetchAnswer (s : State) (c : ClientId) (x : Client) : (s.setClient c x).fetchAnswer = s.fetchAnswer := rfl
@[simp] theorem State.setClient_playoutWrite (s : State) (c : ClientId) (x : Client) : (s.setClient c x).playoutWrite = s.playoutWrite := rfl
@[simp] theorem State.setClient_playoutOut (s : State) (c : ClientId) (x : Client) : (s.setClient c x).playoutOut = s.playoutOut := rfl
@[simp] theorem State.setClient_now (s : State) (c : ClientId) (x : Client) : (s.setClient c x).now = s.now := rfl
@[simp] theorem State.setClient_openChoices (s : State) (c : ClientId) (x : Client) : (s.setClient c x).openChoices = s.openChoices := rfl
@[simp] theorem State.setClient_pending (s : State) (c : ClientId) (x : Client) : (s.setClient c x).pending = s.pending := rfl

/-! ### `State.setLadder` -/

@[simp] theorem State.setLadder_params (s : State) (l : LadderId) (x : Ladder) : (s.setLadder l x).params = s.params := rfl
@[simp] theorem State.setLadder_meter (s : State) (l : LadderId) (x : Ladder) : (s.setLadder l x).meter = s.meter := rfl
@[simp] theorem State.setLadder_usable (s : State) (l : LadderId) (x : Ladder) : (s.setLadder l x).usable = s.usable := rfl
@[simp] theorem State.setLadder_parkingInForce (s : State) (l : LadderId) (x : Ladder) : (s.setLadder l x).parkingInForce = s.parkingInForce := rfl
@[simp] theorem State.setLadder_congested (s : State) (l : LadderId) (x : Ladder) : (s.setLadder l x).congested = s.congested := rfl
@[simp] theorem State.setLadder_stagingA (s : State) (l : LadderId) (x : Ladder) : (s.setLadder l x).stagingA = s.stagingA := rfl
@[simp] theorem State.setLadder_stagingB (s : State) (l : LadderId) (x : Ladder) : (s.setLadder l x).stagingB = s.stagingB := rfl
@[simp] theorem State.setLadder_sessions (s : State) (l : LadderId) (x : Ladder) : (s.setLadder l x).sessions = s.sessions := rfl
@[simp] theorem State.setLadder_poolFree (s : State) (l : LadderId) (x : Ladder) : (s.setLadder l x).poolFree = s.poolFree := rfl
@[simp] theorem State.setLadder_slots (s : State) (l : LadderId) (x : Ladder) : (s.setLadder l x).slots = s.slots := rfl
@[simp] theorem State.setLadder_tagCounter (s : State) (l : LadderId) (x : Ladder) : (s.setLadder l x).tagCounter = s.tagCounter := rfl
@[simp] theorem State.setLadder_orderQueue (s : State) (l : LadderId) (x : Ladder) : (s.setLadder l x).orderQueue = s.orderQueue := rfl
@[simp] theorem State.setLadder_cancelList (s : State) (l : LadderId) (x : Ladder) : (s.setLadder l x).cancelList = s.cancelList := rfl
@[simp] theorem State.setLadder_lastGranted (s : State) (l : LadderId) (x : Ladder) : (s.setLadder l x).lastGranted = s.lastGranted := rfl
@[simp] theorem State.setLadder_clients (s : State) (l : LadderId) (x : Ladder) : (s.setLadder l x).clients = s.clients := rfl
@[simp] theorem State.setLadder_baseAddress (s : State) (l : LadderId) (x : Ladder) : (s.setLadder l x).baseAddress = s.baseAddress := rfl
@[simp] theorem State.setLadder_controlFrame (s : State) (l : LadderId) (x : Ladder) : (s.setLadder l x).controlFrame = s.controlFrame := rfl
@[simp] theorem State.setLadder_response (s : State) (l : LadderId) (x : Ladder) : (s.setLadder l x).response = s.response := rfl
@[simp] theorem State.setLadder_sessionNotices (s : State) (l : LadderId) (x : Ladder) : (s.setLadder l x).sessionNotices = s.sessionNotices := rfl
@[simp] theorem State.setLadder_partNotices (s : State) (l : LadderId) (x : Ladder) : (s.setLadder l x).partNotices = s.partNotices := rfl
@[simp] theorem State.setLadder_noticeEnable (s : State) (l : LadderId) (x : Ladder) : (s.setLadder l x).noticeEnable = s.noticeEnable := rfl
@[simp] theorem State.setLadder_attn (s : State) (l : LadderId) (x : Ladder) : (s.setLadder l x).attn = s.attn := rfl
@[simp] theorem State.setLadder_inReset (s : State) (l : LadderId) (x : Ladder) : (s.setLadder l x).inReset = s.inReset := rfl
@[simp] theorem State.setLadder_fetchRecord (s : State) (l : LadderId) (x : Ladder) : (s.setLadder l x).fetchRecord = s.fetchRecord := rfl
@[simp] theorem State.setLadder_fetchAnswer (s : State) (l : LadderId) (x : Ladder) : (s.setLadder l x).fetchAnswer = s.fetchAnswer := rfl
@[simp] theorem State.setLadder_playoutWrite (s : State) (l : LadderId) (x : Ladder) : (s.setLadder l x).playoutWrite = s.playoutWrite := rfl
@[simp] theorem State.setLadder_playoutOut (s : State) (l : LadderId) (x : Ladder) : (s.setLadder l x).playoutOut = s.playoutOut := rfl
@[simp] theorem State.setLadder_now (s : State) (l : LadderId) (x : Ladder) : (s.setLadder l x).now = s.now := rfl
@[simp] theorem State.setLadder_openChoices (s : State) (l : LadderId) (x : Ladder) : (s.setLadder l x).openChoices = s.openChoices := rfl
@[simp] theorem State.setLadder_pending (s : State) (l : LadderId) (x : Ladder) : (s.setLadder l x).pending = s.pending := rfl

/-! ### `State.updateEntry` -/

@[simp] theorem State.updateEntry_params (s : State) (r : EntryRef) (f : Entry → Entry) : (s.updateEntry r f).params = s.params := rfl
@[simp] theorem State.updateEntry_meter (s : State) (r : EntryRef) (f : Entry → Entry) : (s.updateEntry r f).meter = s.meter := rfl
@[simp] theorem State.updateEntry_usable (s : State) (r : EntryRef) (f : Entry → Entry) : (s.updateEntry r f).usable = s.usable := rfl
@[simp] theorem State.updateEntry_parkingInForce (s : State) (r : EntryRef) (f : Entry → Entry) : (s.updateEntry r f).parkingInForce = s.parkingInForce := rfl
@[simp] theorem State.updateEntry_congested (s : State) (r : EntryRef) (f : Entry → Entry) : (s.updateEntry r f).congested = s.congested := rfl
@[simp] theorem State.updateEntry_ladders (s : State) (r : EntryRef) (f : Entry → Entry) : (s.updateEntry r f).ladders = s.ladders := rfl
@[simp] theorem State.updateEntry_stagingA (s : State) (r : EntryRef) (f : Entry → Entry) : (s.updateEntry r f).stagingA = s.stagingA := rfl
@[simp] theorem State.updateEntry_stagingB (s : State) (r : EntryRef) (f : Entry → Entry) : (s.updateEntry r f).stagingB = s.stagingB := rfl
@[simp] theorem State.updateEntry_poolFree (s : State) (r : EntryRef) (f : Entry → Entry) : (s.updateEntry r f).poolFree = s.poolFree := rfl
@[simp] theorem State.updateEntry_slots (s : State) (r : EntryRef) (f : Entry → Entry) : (s.updateEntry r f).slots = s.slots := rfl
@[simp] theorem State.updateEntry_tagCounter (s : State) (r : EntryRef) (f : Entry → Entry) : (s.updateEntry r f).tagCounter = s.tagCounter := rfl
@[simp] theorem State.updateEntry_orderQueue (s : State) (r : EntryRef) (f : Entry → Entry) : (s.updateEntry r f).orderQueue = s.orderQueue := rfl
@[simp] theorem State.updateEntry_cancelList (s : State) (r : EntryRef) (f : Entry → Entry) : (s.updateEntry r f).cancelList = s.cancelList := rfl
@[simp] theorem State.updateEntry_lastGranted (s : State) (r : EntryRef) (f : Entry → Entry) : (s.updateEntry r f).lastGranted = s.lastGranted := rfl
@[simp] theorem State.updateEntry_clients (s : State) (r : EntryRef) (f : Entry → Entry) : (s.updateEntry r f).clients = s.clients := rfl
@[simp] theorem State.updateEntry_baseAddress (s : State) (r : EntryRef) (f : Entry → Entry) : (s.updateEntry r f).baseAddress = s.baseAddress := rfl
@[simp] theorem State.updateEntry_controlFrame (s : State) (r : EntryRef) (f : Entry → Entry) : (s.updateEntry r f).controlFrame = s.controlFrame := rfl
@[simp] theorem State.updateEntry_response (s : State) (r : EntryRef) (f : Entry → Entry) : (s.updateEntry r f).response = s.response := rfl
@[simp] theorem State.updateEntry_sessionNotices (s : State) (r : EntryRef) (f : Entry → Entry) : (s.updateEntry r f).sessionNotices = s.sessionNotices := rfl
@[simp] theorem State.updateEntry_partNotices (s : State) (r : EntryRef) (f : Entry → Entry) : (s.updateEntry r f).partNotices = s.partNotices := rfl
@[simp] theorem State.updateEntry_noticeEnable (s : State) (r : EntryRef) (f : Entry → Entry) : (s.updateEntry r f).noticeEnable = s.noticeEnable := rfl
@[simp] theorem State.updateEntry_attn (s : State) (r : EntryRef) (f : Entry → Entry) : (s.updateEntry r f).attn = s.attn := rfl
@[simp] theorem State.updateEntry_inReset (s : State) (r : EntryRef) (f : Entry → Entry) : (s.updateEntry r f).inReset = s.inReset := rfl
@[simp] theorem State.updateEntry_fetchRecord (s : State) (r : EntryRef) (f : Entry → Entry) : (s.updateEntry r f).fetchRecord = s.fetchRecord := rfl
@[simp] theorem State.updateEntry_fetchAnswer (s : State) (r : EntryRef) (f : Entry → Entry) : (s.updateEntry r f).fetchAnswer = s.fetchAnswer := rfl
@[simp] theorem State.updateEntry_playoutWrite (s : State) (r : EntryRef) (f : Entry → Entry) : (s.updateEntry r f).playoutWrite = s.playoutWrite := rfl
@[simp] theorem State.updateEntry_playoutOut (s : State) (r : EntryRef) (f : Entry → Entry) : (s.updateEntry r f).playoutOut = s.playoutOut := rfl
@[simp] theorem State.updateEntry_now (s : State) (r : EntryRef) (f : Entry → Entry) : (s.updateEntry r f).now = s.now := rfl
@[simp] theorem State.updateEntry_openChoices (s : State) (r : EntryRef) (f : Entry → Entry) : (s.updateEntry r f).openChoices = s.openChoices := rfl
@[simp] theorem State.updateEntry_pending (s : State) (r : EntryRef) (f : Entry → Entry) : (s.updateEntry r f).pending = s.pending := rfl

/-! ### `State.judgeAttn` -/

@[simp] theorem State.judgeAttn_params (s : State) : (s.judgeAttn).params = s.params := rfl
@[simp] theorem State.judgeAttn_meter (s : State) : (s.judgeAttn).meter = s.meter := rfl
@[simp] theorem State.judgeAttn_usable (s : State) : (s.judgeAttn).usable = s.usable := rfl
@[simp] theorem State.judgeAttn_parkingInForce (s : State) : (s.judgeAttn).parkingInForce = s.parkingInForce := rfl
@[simp] theorem State.judgeAttn_congested (s : State) : (s.judgeAttn).congested = s.congested := rfl
@[simp] theorem State.judgeAttn_ladders (s : State) : (s.judgeAttn).ladders = s.ladders := rfl
@[simp] theorem State.judgeAttn_stagingA (s : State) : (s.judgeAttn).stagingA = s.stagingA := rfl
@[simp] theorem State.judgeAttn_stagingB (s : State) : (s.judgeAttn).stagingB = s.stagingB := rfl
@[simp] theorem State.judgeAttn_sessions (s : State) : (s.judgeAttn).sessions = s.sessions := rfl
@[simp] theorem State.judgeAttn_poolFree (s : State) : (s.judgeAttn).poolFree = s.poolFree := rfl
@[simp] theorem State.judgeAttn_slots (s : State) : (s.judgeAttn).slots = s.slots := rfl
@[simp] theorem State.judgeAttn_tagCounter (s : State) : (s.judgeAttn).tagCounter = s.tagCounter := rfl
@[simp] theorem State.judgeAttn_orderQueue (s : State) : (s.judgeAttn).orderQueue = s.orderQueue := rfl
@[simp] theorem State.judgeAttn_cancelList (s : State) : (s.judgeAttn).cancelList = s.cancelList := rfl
@[simp] theorem State.judgeAttn_lastGranted (s : State) : (s.judgeAttn).lastGranted = s.lastGranted := rfl
@[simp] theorem State.judgeAttn_clients (s : State) : (s.judgeAttn).clients = s.clients := rfl
@[simp] theorem State.judgeAttn_baseAddress (s : State) : (s.judgeAttn).baseAddress = s.baseAddress := rfl
@[simp] theorem State.judgeAttn_controlFrame (s : State) : (s.judgeAttn).controlFrame = s.controlFrame := rfl
@[simp] theorem State.judgeAttn_response (s : State) : (s.judgeAttn).response = s.response := rfl
@[simp] theorem State.judgeAttn_sessionNotices (s : State) : (s.judgeAttn).sessionNotices = s.sessionNotices := rfl
@[simp] theorem State.judgeAttn_partNotices (s : State) : (s.judgeAttn).partNotices = s.partNotices := rfl
@[simp] theorem State.judgeAttn_noticeEnable (s : State) : (s.judgeAttn).noticeEnable = s.noticeEnable := rfl
@[simp] theorem State.judgeAttn_inReset (s : State) : (s.judgeAttn).inReset = s.inReset := rfl
@[simp] theorem State.judgeAttn_fetchRecord (s : State) : (s.judgeAttn).fetchRecord = s.fetchRecord := rfl
@[simp] theorem State.judgeAttn_fetchAnswer (s : State) : (s.judgeAttn).fetchAnswer = s.fetchAnswer := rfl
@[simp] theorem State.judgeAttn_playoutWrite (s : State) : (s.judgeAttn).playoutWrite = s.playoutWrite := rfl
@[simp] theorem State.judgeAttn_playoutOut (s : State) : (s.judgeAttn).playoutOut = s.playoutOut := rfl
@[simp] theorem State.judgeAttn_now (s : State) : (s.judgeAttn).now = s.now := rfl
@[simp] theorem State.judgeAttn_openChoices (s : State) : (s.judgeAttn).openChoices = s.openChoices := rfl
@[simp] theorem State.judgeAttn_pending (s : State) : (s.judgeAttn).pending = s.pending := rfl

/-! ### `State.notify` -/

@[simp] theorem State.notify_params (s : State) (i : SessionId) (k : SessionKind) : (s.notify i k).params = s.params := rfl
@[simp] theorem State.notify_meter (s : State) (i : SessionId) (k : SessionKind) : (s.notify i k).meter = s.meter := rfl
@[simp] theorem State.notify_usable (s : State) (i : SessionId) (k : SessionKind) : (s.notify i k).usable = s.usable := rfl
@[simp] theorem State.notify_parkingInForce (s : State) (i : SessionId) (k : SessionKind) : (s.notify i k).parkingInForce = s.parkingInForce := rfl
@[simp] theorem State.notify_congested (s : State) (i : SessionId) (k : SessionKind) : (s.notify i k).congested = s.congested := rfl
@[simp] theorem State.notify_ladders (s : State) (i : SessionId) (k : SessionKind) : (s.notify i k).ladders = s.ladders := rfl
@[simp] theorem State.notify_stagingA (s : State) (i : SessionId) (k : SessionKind) : (s.notify i k).stagingA = s.stagingA := rfl
@[simp] theorem State.notify_stagingB (s : State) (i : SessionId) (k : SessionKind) : (s.notify i k).stagingB = s.stagingB := rfl
@[simp] theorem State.notify_sessions (s : State) (i : SessionId) (k : SessionKind) : (s.notify i k).sessions = s.sessions := rfl
@[simp] theorem State.notify_poolFree (s : State) (i : SessionId) (k : SessionKind) : (s.notify i k).poolFree = s.poolFree := rfl
@[simp] theorem State.notify_slots (s : State) (i : SessionId) (k : SessionKind) : (s.notify i k).slots = s.slots := rfl
@[simp] theorem State.notify_tagCounter (s : State) (i : SessionId) (k : SessionKind) : (s.notify i k).tagCounter = s.tagCounter := rfl
@[simp] theorem State.notify_orderQueue (s : State) (i : SessionId) (k : SessionKind) : (s.notify i k).orderQueue = s.orderQueue := rfl
@[simp] theorem State.notify_cancelList (s : State) (i : SessionId) (k : SessionKind) : (s.notify i k).cancelList = s.cancelList := rfl
@[simp] theorem State.notify_lastGranted (s : State) (i : SessionId) (k : SessionKind) : (s.notify i k).lastGranted = s.lastGranted := rfl
@[simp] theorem State.notify_clients (s : State) (i : SessionId) (k : SessionKind) : (s.notify i k).clients = s.clients := rfl
@[simp] theorem State.notify_baseAddress (s : State) (i : SessionId) (k : SessionKind) : (s.notify i k).baseAddress = s.baseAddress := rfl
@[simp] theorem State.notify_controlFrame (s : State) (i : SessionId) (k : SessionKind) : (s.notify i k).controlFrame = s.controlFrame := rfl
@[simp] theorem State.notify_response (s : State) (i : SessionId) (k : SessionKind) : (s.notify i k).response = s.response := rfl
@[simp] theorem State.notify_partNotices (s : State) (i : SessionId) (k : SessionKind) : (s.notify i k).partNotices = s.partNotices := rfl
@[simp] theorem State.notify_noticeEnable (s : State) (i : SessionId) (k : SessionKind) : (s.notify i k).noticeEnable = s.noticeEnable := rfl
@[simp] theorem State.notify_inReset (s : State) (i : SessionId) (k : SessionKind) : (s.notify i k).inReset = s.inReset := rfl
@[simp] theorem State.notify_fetchRecord (s : State) (i : SessionId) (k : SessionKind) : (s.notify i k).fetchRecord = s.fetchRecord := rfl
@[simp] theorem State.notify_fetchAnswer (s : State) (i : SessionId) (k : SessionKind) : (s.notify i k).fetchAnswer = s.fetchAnswer := rfl
@[simp] theorem State.notify_playoutWrite (s : State) (i : SessionId) (k : SessionKind) : (s.notify i k).playoutWrite = s.playoutWrite := rfl
@[simp] theorem State.notify_playoutOut (s : State) (i : SessionId) (k : SessionKind) : (s.notify i k).playoutOut = s.playoutOut := rfl
@[simp] theorem State.notify_now (s : State) (i : SessionId) (k : SessionKind) : (s.notify i k).now = s.now := rfl
@[simp] theorem State.notify_openChoices (s : State) (i : SessionId) (k : SessionKind) : (s.notify i k).openChoices = s.openChoices := rfl
@[simp] theorem State.notify_pending (s : State) (i : SessionId) (k : SessionKind) : (s.notify i k).pending = s.pending := rfl

/-! ### `State.notifyPart` -/

@[simp] theorem State.notifyPart_params (s : State) (k : PartKind) : (s.notifyPart k).params = s.params := rfl
@[simp] theorem State.notifyPart_meter (s : State) (k : PartKind) : (s.notifyPart k).meter = s.meter := rfl
@[simp] theorem State.notifyPart_usable (s : State) (k : PartKind) : (s.notifyPart k).usable = s.usable := rfl
@[simp] theorem State.notifyPart_parkingInForce (s : State) (k : PartKind) : (s.notifyPart k).parkingInForce = s.parkingInForce := rfl
@[simp] theorem State.notifyPart_congested (s : State) (k : PartKind) : (s.notifyPart k).congested = s.congested := rfl
@[simp] theorem State.notifyPart_ladders (s : State) (k : PartKind) : (s.notifyPart k).ladders = s.ladders := rfl
@[simp] theorem State.notifyPart_stagingA (s : State) (k : PartKind) : (s.notifyPart k).stagingA = s.stagingA := rfl
@[simp] theorem State.notifyPart_stagingB (s : State) (k : PartKind) : (s.notifyPart k).stagingB = s.stagingB := rfl
@[simp] theorem State.notifyPart_sessions (s : State) (k : PartKind) : (s.notifyPart k).sessions = s.sessions := rfl
@[simp] theorem State.notifyPart_poolFree (s : State) (k : PartKind) : (s.notifyPart k).poolFree = s.poolFree := rfl
@[simp] theorem State.notifyPart_slots (s : State) (k : PartKind) : (s.notifyPart k).slots = s.slots := rfl
@[simp] theorem State.notifyPart_tagCounter (s : State) (k : PartKind) : (s.notifyPart k).tagCounter = s.tagCounter := rfl
@[simp] theorem State.notifyPart_orderQueue (s : State) (k : PartKind) : (s.notifyPart k).orderQueue = s.orderQueue := rfl
@[simp] theorem State.notifyPart_cancelList (s : State) (k : PartKind) : (s.notifyPart k).cancelList = s.cancelList := rfl
@[simp] theorem State.notifyPart_lastGranted (s : State) (k : PartKind) : (s.notifyPart k).lastGranted = s.lastGranted := rfl
@[simp] theorem State.notifyPart_clients (s : State) (k : PartKind) : (s.notifyPart k).clients = s.clients := rfl
@[simp] theorem State.notifyPart_baseAddress (s : State) (k : PartKind) : (s.notifyPart k).baseAddress = s.baseAddress := rfl
@[simp] theorem State.notifyPart_controlFrame (s : State) (k : PartKind) : (s.notifyPart k).controlFrame = s.controlFrame := rfl
@[simp] theorem State.notifyPart_response (s : State) (k : PartKind) : (s.notifyPart k).response = s.response := rfl
@[simp] theorem State.notifyPart_sessionNotices (s : State) (k : PartKind) : (s.notifyPart k).sessionNotices = s.sessionNotices := rfl
@[simp] theorem State.notifyPart_noticeEnable (s : State) (k : PartKind) : (s.notifyPart k).noticeEnable = s.noticeEnable := rfl
@[simp] theorem State.notifyPart_inReset (s : State) (k : PartKind) : (s.notifyPart k).inReset = s.inReset := rfl
@[simp] theorem State.notifyPart_fetchRecord (s : State) (k : PartKind) : (s.notifyPart k).fetchRecord = s.fetchRecord := rfl
@[simp] theorem State.notifyPart_fetchAnswer (s : State) (k : PartKind) : (s.notifyPart k).fetchAnswer = s.fetchAnswer := rfl
@[simp] theorem State.notifyPart_playoutWrite (s : State) (k : PartKind) : (s.notifyPart k).playoutWrite = s.playoutWrite := rfl
@[simp] theorem State.notifyPart_playoutOut (s : State) (k : PartKind) : (s.notifyPart k).playoutOut = s.playoutOut := rfl
@[simp] theorem State.notifyPart_now (s : State) (k : PartKind) : (s.notifyPart k).now = s.now := rfl
@[simp] theorem State.notifyPart_openChoices (s : State) (k : PartKind) : (s.notifyPart k).openChoices = s.openChoices := rfl
@[simp] theorem State.notifyPart_pending (s : State) (k : PartKind) : (s.notifyPart k).pending = s.pending := rfl

/-! ### `State.reply` -/

@[simp] theorem State.reply_params (s : State) (status : Status) (payload : List Byte) : (s.reply status payload).params = s.params := rfl
@[simp] theorem State.reply_meter (s : State) (status : Status) (payload : List Byte) : (s.reply status payload).meter = s.meter := rfl
@[simp] theorem State.reply_usable (s : State) (status : Status) (payload : List Byte) : (s.reply status payload).usable = s.usable := rfl
@[simp] theorem State.reply_parkingInForce (s : State) (status : Status) (payload : List Byte) : (s.reply status payload).parkingInForce = s.parkingInForce := rfl
@[simp] theorem State.reply_congested (s : State) (status : Status) (payload : List Byte) : (s.reply status payload).congested = s.congested := rfl
@[simp] theorem State.reply_ladders (s : State) (status : Status) (payload : List Byte) : (s.reply status payload).ladders = s.ladders := rfl
@[simp] theorem State.reply_stagingA (s : State) (status : Status) (payload : List Byte) : (s.reply status payload).stagingA = s.stagingA := rfl
@[simp] theorem State.reply_stagingB (s : State) (status : Status) (payload : List Byte) : (s.reply status payload).stagingB = s.stagingB := rfl
@[simp] theorem State.reply_sessions (s : State) (status : Status) (payload : List Byte) : (s.reply status payload).sessions = s.sessions := rfl
@[simp] theorem State.reply_poolFree (s : State) (status : Status) (payload : List Byte) : (s.reply status payload).poolFree = s.poolFree := rfl
@[simp] theorem State.reply_slots (s : State) (status : Status) (payload : List Byte) : (s.reply status payload).slots = s.slots := rfl
@[simp] theorem State.reply_tagCounter (s : State) (status : Status) (payload : List Byte) : (s.reply status payload).tagCounter = s.tagCounter := rfl
@[simp] theorem State.reply_orderQueue (s : State) (status : Status) (payload : List Byte) : (s.reply status payload).orderQueue = s.orderQueue := rfl
@[simp] theorem State.reply_cancelList (s : State) (status : Status) (payload : List Byte) : (s.reply status payload).cancelList = s.cancelList := rfl
@[simp] theorem State.reply_lastGranted (s : State) (status : Status) (payload : List Byte) : (s.reply status payload).lastGranted = s.lastGranted := rfl
@[simp] theorem State.reply_clients (s : State) (status : Status) (payload : List Byte) : (s.reply status payload).clients = s.clients := rfl
@[simp] theorem State.reply_baseAddress (s : State) (status : Status) (payload : List Byte) : (s.reply status payload).baseAddress = s.baseAddress := rfl
@[simp] theorem State.reply_sessionNotices (s : State) (status : Status) (payload : List Byte) : (s.reply status payload).sessionNotices = s.sessionNotices := rfl
@[simp] theorem State.reply_partNotices (s : State) (status : Status) (payload : List Byte) : (s.reply status payload).partNotices = s.partNotices := rfl
@[simp] theorem State.reply_noticeEnable (s : State) (status : Status) (payload : List Byte) : (s.reply status payload).noticeEnable = s.noticeEnable := rfl
@[simp] theorem State.reply_attn (s : State) (status : Status) (payload : List Byte) : (s.reply status payload).attn = s.attn := rfl
@[simp] theorem State.reply_inReset (s : State) (status : Status) (payload : List Byte) : (s.reply status payload).inReset = s.inReset := rfl
@[simp] theorem State.reply_fetchRecord (s : State) (status : Status) (payload : List Byte) : (s.reply status payload).fetchRecord = s.fetchRecord := rfl
@[simp] theorem State.reply_fetchAnswer (s : State) (status : Status) (payload : List Byte) : (s.reply status payload).fetchAnswer = s.fetchAnswer := rfl
@[simp] theorem State.reply_playoutWrite (s : State) (status : Status) (payload : List Byte) : (s.reply status payload).playoutWrite = s.playoutWrite := rfl
@[simp] theorem State.reply_playoutOut (s : State) (status : Status) (payload : List Byte) : (s.reply status payload).playoutOut = s.playoutOut := rfl
@[simp] theorem State.reply_now (s : State) (status : Status) (payload : List Byte) : (s.reply status payload).now = s.now := rfl
@[simp] theorem State.reply_openChoices (s : State) (status : Status) (payload : List Byte) : (s.reply status payload).openChoices = s.openChoices := rfl
@[simp] theorem State.reply_pending (s : State) (status : Status) (payload : List Byte) : (s.reply status payload).pending = s.pending := rfl

/-! ### `State.respond` -/

@[simp] theorem State.respond_params (s : State) (status : Status) : (s.respond status).params = s.params := rfl
@[simp] theorem State.respond_meter (s : State) (status : Status) : (s.respond status).meter = s.meter := rfl
@[simp] theorem State.respond_usable (s : State) (status : Status) : (s.respond status).usable = s.usable := rfl
@[simp] theorem State.respond_parkingInForce (s : State) (status : Status) : (s.respond status).parkingInForce = s.parkingInForce := rfl
@[simp] theorem State.respond_congested (s : State) (status : Status) : (s.respond status).congested = s.congested := rfl
@[simp] theorem State.respond_ladders (s : State) (status : Status) : (s.respond status).ladders = s.ladders := rfl
@[simp] theorem State.respond_stagingA (s : State) (status : Status) : (s.respond status).stagingA = s.stagingA := rfl
@[simp] theorem State.respond_stagingB (s : State) (status : Status) : (s.respond status).stagingB = s.stagingB := rfl
@[simp] theorem State.respond_sessions (s : State) (status : Status) : (s.respond status).sessions = s.sessions := rfl
@[simp] theorem State.respond_poolFree (s : State) (status : Status) : (s.respond status).poolFree = s.poolFree := rfl
@[simp] theorem State.respond_slots (s : State) (status : Status) : (s.respond status).slots = s.slots := rfl
@[simp] theorem State.respond_tagCounter (s : State) (status : Status) : (s.respond status).tagCounter = s.tagCounter := rfl
@[simp] theorem State.respond_orderQueue (s : State) (status : Status) : (s.respond status).orderQueue = s.orderQueue := rfl
@[simp] theorem State.respond_cancelList (s : State) (status : Status) : (s.respond status).cancelList = s.cancelList := rfl
@[simp] theorem State.respond_lastGranted (s : State) (status : Status) : (s.respond status).lastGranted = s.lastGranted := rfl
@[simp] theorem State.respond_clients (s : State) (status : Status) : (s.respond status).clients = s.clients := rfl
@[simp] theorem State.respond_baseAddress (s : State) (status : Status) : (s.respond status).baseAddress = s.baseAddress := rfl
@[simp] theorem State.respond_sessionNotices (s : State) (status : Status) : (s.respond status).sessionNotices = s.sessionNotices := rfl
@[simp] theorem State.respond_partNotices (s : State) (status : Status) : (s.respond status).partNotices = s.partNotices := rfl
@[simp] theorem State.respond_noticeEnable (s : State) (status : Status) : (s.respond status).noticeEnable = s.noticeEnable := rfl
@[simp] theorem State.respond_attn (s : State) (status : Status) : (s.respond status).attn = s.attn := rfl
@[simp] theorem State.respond_inReset (s : State) (status : Status) : (s.respond status).inReset = s.inReset := rfl
@[simp] theorem State.respond_fetchRecord (s : State) (status : Status) : (s.respond status).fetchRecord = s.fetchRecord := rfl
@[simp] theorem State.respond_fetchAnswer (s : State) (status : Status) : (s.respond status).fetchAnswer = s.fetchAnswer := rfl
@[simp] theorem State.respond_playoutWrite (s : State) (status : Status) : (s.respond status).playoutWrite = s.playoutWrite := rfl
@[simp] theorem State.respond_playoutOut (s : State) (status : Status) : (s.respond status).playoutOut = s.playoutOut := rfl
@[simp] theorem State.respond_now (s : State) (status : Status) : (s.respond status).now = s.now := rfl
@[simp] theorem State.respond_openChoices (s : State) (status : Status) : (s.respond status).openChoices = s.openChoices := rfl
@[simp] theorem State.respond_pending (s : State) (status : Status) : (s.respond status).pending = s.pending := rfl

/-! ### `State.respondWith` -/

@[simp] theorem State.respondWith_params (s : State) (payload : List Byte) : (s.respondWith payload).params = s.params := rfl
@[simp] theorem State.respondWith_meter (s : State) (payload : List Byte) : (s.respondWith payload).meter = s.meter := rfl
@[simp] theorem State.respondWith_usable (s : State) (payload : List Byte) : (s.respondWith payload).usable = s.usable := rfl
@[simp] theorem State.respondWith_parkingInForce (s : State) (payload : List Byte) : (s.respondWith payload).parkingInForce = s.parkingInForce := rfl
@[simp] theorem State.respondWith_congested (s : State) (payload : List Byte) : (s.respondWith payload).congested = s.congested := rfl
@[simp] theorem State.respondWith_ladders (s : State) (payload : List Byte) : (s.respondWith payload).ladders = s.ladders := rfl
@[simp] theorem State.respondWith_stagingA (s : State) (payload : List Byte) : (s.respondWith payload).stagingA = s.stagingA := rfl
@[simp] theorem State.respondWith_stagingB (s : State) (payload : List Byte) : (s.respondWith payload).stagingB = s.stagingB := rfl
@[simp] theorem State.respondWith_sessions (s : State) (payload : List Byte) : (s.respondWith payload).sessions = s.sessions := rfl
@[simp] theorem State.respondWith_poolFree (s : State) (payload : List Byte) : (s.respondWith payload).poolFree = s.poolFree := rfl
@[simp] theorem State.respondWith_slots (s : State) (payload : List Byte) : (s.respondWith payload).slots = s.slots := rfl
@[simp] theorem State.respondWith_tagCounter (s : State) (payload : List Byte) : (s.respondWith payload).tagCounter = s.tagCounter := rfl
@[simp] theorem State.respondWith_orderQueue (s : State) (payload : List Byte) : (s.respondWith payload).orderQueue = s.orderQueue := rfl
@[simp] theorem State.respondWith_cancelList (s : State) (payload : List Byte) : (s.respondWith payload).cancelList = s.cancelList := rfl
@[simp] theorem State.respondWith_lastGranted (s : State) (payload : List Byte) : (s.respondWith payload).lastGranted = s.lastGranted := rfl
@[simp] theorem State.respondWith_clients (s : State) (payload : List Byte) : (s.respondWith payload).clients = s.clients := rfl
@[simp] theorem State.respondWith_baseAddress (s : State) (payload : List Byte) : (s.respondWith payload).baseAddress = s.baseAddress := rfl
@[simp] theorem State.respondWith_sessionNotices (s : State) (payload : List Byte) : (s.respondWith payload).sessionNotices = s.sessionNotices := rfl
@[simp] theorem State.respondWith_partNotices (s : State) (payload : List Byte) : (s.respondWith payload).partNotices = s.partNotices := rfl
@[simp] theorem State.respondWith_noticeEnable (s : State) (payload : List Byte) : (s.respondWith payload).noticeEnable = s.noticeEnable := rfl
@[simp] theorem State.respondWith_attn (s : State) (payload : List Byte) : (s.respondWith payload).attn = s.attn := rfl
@[simp] theorem State.respondWith_inReset (s : State) (payload : List Byte) : (s.respondWith payload).inReset = s.inReset := rfl
@[simp] theorem State.respondWith_fetchRecord (s : State) (payload : List Byte) : (s.respondWith payload).fetchRecord = s.fetchRecord := rfl
@[simp] theorem State.respondWith_fetchAnswer (s : State) (payload : List Byte) : (s.respondWith payload).fetchAnswer = s.fetchAnswer := rfl
@[simp] theorem State.respondWith_playoutWrite (s : State) (payload : List Byte) : (s.respondWith payload).playoutWrite = s.playoutWrite := rfl
@[simp] theorem State.respondWith_playoutOut (s : State) (payload : List Byte) : (s.respondWith payload).playoutOut = s.playoutOut := rfl
@[simp] theorem State.respondWith_now (s : State) (payload : List Byte) : (s.respondWith payload).now = s.now := rfl
@[simp] theorem State.respondWith_openChoices (s : State) (payload : List Byte) : (s.respondWith payload).openChoices = s.openChoices := rfl
@[simp] theorem State.respondWith_pending (s : State) (payload : List Byte) : (s.respondWith payload).pending = s.pending := rfl

/-! ### `State.answerFetch` -/

@[simp] theorem State.answerFetch_params (s : State) (a : FetchAnswer) : (s.answerFetch a).params = s.params := rfl
@[simp] theorem State.answerFetch_meter (s : State) (a : FetchAnswer) : (s.answerFetch a).meter = s.meter := rfl
@[simp] theorem State.answerFetch_usable (s : State) (a : FetchAnswer) : (s.answerFetch a).usable = s.usable := rfl
@[simp] theorem State.answerFetch_parkingInForce (s : State) (a : FetchAnswer) : (s.answerFetch a).parkingInForce = s.parkingInForce := rfl
@[simp] theorem State.answerFetch_congested (s : State) (a : FetchAnswer) : (s.answerFetch a).congested = s.congested := rfl
@[simp] theorem State.answerFetch_ladders (s : State) (a : FetchAnswer) : (s.answerFetch a).ladders = s.ladders := rfl
@[simp] theorem State.answerFetch_stagingA (s : State) (a : FetchAnswer) : (s.answerFetch a).stagingA = s.stagingA := rfl
@[simp] theorem State.answerFetch_stagingB (s : State) (a : FetchAnswer) : (s.answerFetch a).stagingB = s.stagingB := rfl
@[simp] theorem State.answerFetch_sessions (s : State) (a : FetchAnswer) : (s.answerFetch a).sessions = s.sessions := rfl
@[simp] theorem State.answerFetch_poolFree (s : State) (a : FetchAnswer) : (s.answerFetch a).poolFree = s.poolFree := rfl
@[simp] theorem State.answerFetch_slots (s : State) (a : FetchAnswer) : (s.answerFetch a).slots = s.slots := rfl
@[simp] theorem State.answerFetch_tagCounter (s : State) (a : FetchAnswer) : (s.answerFetch a).tagCounter = s.tagCounter := rfl
@[simp] theorem State.answerFetch_orderQueue (s : State) (a : FetchAnswer) : (s.answerFetch a).orderQueue = s.orderQueue := rfl
@[simp] theorem State.answerFetch_cancelList (s : State) (a : FetchAnswer) : (s.answerFetch a).cancelList = s.cancelList := rfl
@[simp] theorem State.answerFetch_lastGranted (s : State) (a : FetchAnswer) : (s.answerFetch a).lastGranted = s.lastGranted := rfl
@[simp] theorem State.answerFetch_clients (s : State) (a : FetchAnswer) : (s.answerFetch a).clients = s.clients := rfl
@[simp] theorem State.answerFetch_baseAddress (s : State) (a : FetchAnswer) : (s.answerFetch a).baseAddress = s.baseAddress := rfl
@[simp] theorem State.answerFetch_controlFrame (s : State) (a : FetchAnswer) : (s.answerFetch a).controlFrame = s.controlFrame := rfl
@[simp] theorem State.answerFetch_response (s : State) (a : FetchAnswer) : (s.answerFetch a).response = s.response := rfl
@[simp] theorem State.answerFetch_sessionNotices (s : State) (a : FetchAnswer) : (s.answerFetch a).sessionNotices = s.sessionNotices := rfl
@[simp] theorem State.answerFetch_partNotices (s : State) (a : FetchAnswer) : (s.answerFetch a).partNotices = s.partNotices := rfl
@[simp] theorem State.answerFetch_noticeEnable (s : State) (a : FetchAnswer) : (s.answerFetch a).noticeEnable = s.noticeEnable := rfl
@[simp] theorem State.answerFetch_attn (s : State) (a : FetchAnswer) : (s.answerFetch a).attn = s.attn := rfl
@[simp] theorem State.answerFetch_inReset (s : State) (a : FetchAnswer) : (s.answerFetch a).inReset = s.inReset := rfl
@[simp] theorem State.answerFetch_playoutWrite (s : State) (a : FetchAnswer) : (s.answerFetch a).playoutWrite = s.playoutWrite := rfl
@[simp] theorem State.answerFetch_playoutOut (s : State) (a : FetchAnswer) : (s.answerFetch a).playoutOut = s.playoutOut := rfl
@[simp] theorem State.answerFetch_now (s : State) (a : FetchAnswer) : (s.answerFetch a).now = s.now := rfl
@[simp] theorem State.answerFetch_openChoices (s : State) (a : FetchAnswer) : (s.answerFetch a).openChoices = s.openChoices := rfl
@[simp] theorem State.answerFetch_pending (s : State) (a : FetchAnswer) : (s.answerFetch a).pending = s.pending := rfl

/-! ### `State.answerClient` -/

@[simp] theorem State.answerClient_params (s : State) (c : ClientId) (a : PlayoutAnswer) : (s.answerClient c a).params = s.params := rfl
@[simp] theorem State.answerClient_meter (s : State) (c : ClientId) (a : PlayoutAnswer) : (s.answerClient c a).meter = s.meter := rfl
@[simp] theorem State.answerClient_usable (s : State) (c : ClientId) (a : PlayoutAnswer) : (s.answerClient c a).usable = s.usable := rfl
@[simp] theorem State.answerClient_parkingInForce (s : State) (c : ClientId) (a : PlayoutAnswer) : (s.answerClient c a).parkingInForce = s.parkingInForce := rfl
@[simp] theorem State.answerClient_congested (s : State) (c : ClientId) (a : PlayoutAnswer) : (s.answerClient c a).congested = s.congested := rfl
@[simp] theorem State.answerClient_ladders (s : State) (c : ClientId) (a : PlayoutAnswer) : (s.answerClient c a).ladders = s.ladders := rfl
@[simp] theorem State.answerClient_stagingA (s : State) (c : ClientId) (a : PlayoutAnswer) : (s.answerClient c a).stagingA = s.stagingA := rfl
@[simp] theorem State.answerClient_stagingB (s : State) (c : ClientId) (a : PlayoutAnswer) : (s.answerClient c a).stagingB = s.stagingB := rfl
@[simp] theorem State.answerClient_sessions (s : State) (c : ClientId) (a : PlayoutAnswer) : (s.answerClient c a).sessions = s.sessions := rfl
@[simp] theorem State.answerClient_poolFree (s : State) (c : ClientId) (a : PlayoutAnswer) : (s.answerClient c a).poolFree = s.poolFree := rfl
@[simp] theorem State.answerClient_slots (s : State) (c : ClientId) (a : PlayoutAnswer) : (s.answerClient c a).slots = s.slots := rfl
@[simp] theorem State.answerClient_tagCounter (s : State) (c : ClientId) (a : PlayoutAnswer) : (s.answerClient c a).tagCounter = s.tagCounter := rfl
@[simp] theorem State.answerClient_orderQueue (s : State) (c : ClientId) (a : PlayoutAnswer) : (s.answerClient c a).orderQueue = s.orderQueue := rfl
@[simp] theorem State.answerClient_cancelList (s : State) (c : ClientId) (a : PlayoutAnswer) : (s.answerClient c a).cancelList = s.cancelList := rfl
@[simp] theorem State.answerClient_lastGranted (s : State) (c : ClientId) (a : PlayoutAnswer) : (s.answerClient c a).lastGranted = s.lastGranted := rfl
@[simp] theorem State.answerClient_baseAddress (s : State) (c : ClientId) (a : PlayoutAnswer) : (s.answerClient c a).baseAddress = s.baseAddress := rfl
@[simp] theorem State.answerClient_controlFrame (s : State) (c : ClientId) (a : PlayoutAnswer) : (s.answerClient c a).controlFrame = s.controlFrame := rfl
@[simp] theorem State.answerClient_response (s : State) (c : ClientId) (a : PlayoutAnswer) : (s.answerClient c a).response = s.response := rfl
@[simp] theorem State.answerClient_sessionNotices (s : State) (c : ClientId) (a : PlayoutAnswer) : (s.answerClient c a).sessionNotices = s.sessionNotices := rfl
@[simp] theorem State.answerClient_partNotices (s : State) (c : ClientId) (a : PlayoutAnswer) : (s.answerClient c a).partNotices = s.partNotices := rfl
@[simp] theorem State.answerClient_noticeEnable (s : State) (c : ClientId) (a : PlayoutAnswer) : (s.answerClient c a).noticeEnable = s.noticeEnable := rfl
@[simp] theorem State.answerClient_attn (s : State) (c : ClientId) (a : PlayoutAnswer) : (s.answerClient c a).attn = s.attn := rfl
@[simp] theorem State.answerClient_inReset (s : State) (c : ClientId) (a : PlayoutAnswer) : (s.answerClient c a).inReset = s.inReset := rfl
@[simp] theorem State.answerClient_fetchRecord (s : State) (c : ClientId) (a : PlayoutAnswer) : (s.answerClient c a).fetchRecord = s.fetchRecord := rfl
@[simp] theorem State.answerClient_fetchAnswer (s : State) (c : ClientId) (a : PlayoutAnswer) : (s.answerClient c a).fetchAnswer = s.fetchAnswer := rfl
@[simp] theorem State.answerClient_playoutOut (s : State) (c : ClientId) (a : PlayoutAnswer) : (s.answerClient c a).playoutOut = s.playoutOut := rfl
@[simp] theorem State.answerClient_now (s : State) (c : ClientId) (a : PlayoutAnswer) : (s.answerClient c a).now = s.now := rfl
@[simp] theorem State.answerClient_openChoices (s : State) (c : ClientId) (a : PlayoutAnswer) : (s.answerClient c a).openChoices = s.openChoices := rfl
@[simp] theorem State.answerClient_pending (s : State) (c : ClientId) (a : PlayoutAnswer) : (s.answerClient c a).pending = s.pending := rfl

/-! ### `State.creditWindow` -/

@[simp] theorem State.creditWindow_params (s : State) (count : Nat) : (s.creditWindow count).params = s.params := rfl
@[simp] theorem State.creditWindow_usable (s : State) (count : Nat) : (s.creditWindow count).usable = s.usable := rfl
@[simp] theorem State.creditWindow_parkingInForce (s : State) (count : Nat) : (s.creditWindow count).parkingInForce = s.parkingInForce := rfl
@[simp] theorem State.creditWindow_congested (s : State) (count : Nat) : (s.creditWindow count).congested = s.congested := rfl
@[simp] theorem State.creditWindow_ladders (s : State) (count : Nat) : (s.creditWindow count).ladders = s.ladders := rfl
@[simp] theorem State.creditWindow_stagingA (s : State) (count : Nat) : (s.creditWindow count).stagingA = s.stagingA := rfl
@[simp] theorem State.creditWindow_stagingB (s : State) (count : Nat) : (s.creditWindow count).stagingB = s.stagingB := rfl
@[simp] theorem State.creditWindow_sessions (s : State) (count : Nat) : (s.creditWindow count).sessions = s.sessions := rfl
@[simp] theorem State.creditWindow_poolFree (s : State) (count : Nat) : (s.creditWindow count).poolFree = s.poolFree := rfl
@[simp] theorem State.creditWindow_slots (s : State) (count : Nat) : (s.creditWindow count).slots = s.slots := rfl
@[simp] theorem State.creditWindow_tagCounter (s : State) (count : Nat) : (s.creditWindow count).tagCounter = s.tagCounter := rfl
@[simp] theorem State.creditWindow_orderQueue (s : State) (count : Nat) : (s.creditWindow count).orderQueue = s.orderQueue := rfl
@[simp] theorem State.creditWindow_cancelList (s : State) (count : Nat) : (s.creditWindow count).cancelList = s.cancelList := rfl
@[simp] theorem State.creditWindow_lastGranted (s : State) (count : Nat) : (s.creditWindow count).lastGranted = s.lastGranted := rfl
@[simp] theorem State.creditWindow_clients (s : State) (count : Nat) : (s.creditWindow count).clients = s.clients := rfl
@[simp] theorem State.creditWindow_baseAddress (s : State) (count : Nat) : (s.creditWindow count).baseAddress = s.baseAddress := rfl
@[simp] theorem State.creditWindow_controlFrame (s : State) (count : Nat) : (s.creditWindow count).controlFrame = s.controlFrame := rfl
@[simp] theorem State.creditWindow_response (s : State) (count : Nat) : (s.creditWindow count).response = s.response := rfl
@[simp] theorem State.creditWindow_sessionNotices (s : State) (count : Nat) : (s.creditWindow count).sessionNotices = s.sessionNotices := rfl
@[simp] theorem State.creditWindow_partNotices (s : State) (count : Nat) : (s.creditWindow count).partNotices = s.partNotices := rfl
@[simp] theorem State.creditWindow_noticeEnable (s : State) (count : Nat) : (s.creditWindow count).noticeEnable = s.noticeEnable := rfl
@[simp] theorem State.creditWindow_attn (s : State) (count : Nat) : (s.creditWindow count).attn = s.attn := rfl
@[simp] theorem State.creditWindow_inReset (s : State) (count : Nat) : (s.creditWindow count).inReset = s.inReset := rfl
@[simp] theorem State.creditWindow_fetchRecord (s : State) (count : Nat) : (s.creditWindow count).fetchRecord = s.fetchRecord := rfl
@[simp] theorem State.creditWindow_fetchAnswer (s : State) (count : Nat) : (s.creditWindow count).fetchAnswer = s.fetchAnswer := rfl
@[simp] theorem State.creditWindow_playoutWrite (s : State) (count : Nat) : (s.creditWindow count).playoutWrite = s.playoutWrite := rfl
@[simp] theorem State.creditWindow_playoutOut (s : State) (count : Nat) : (s.creditWindow count).playoutOut = s.playoutOut := rfl
@[simp] theorem State.creditWindow_now (s : State) (count : Nat) : (s.creditWindow count).now = s.now := rfl
@[simp] theorem State.creditWindow_openChoices (s : State) (count : Nat) : (s.creditWindow count).openChoices = s.openChoices := rfl
@[simp] theorem State.creditWindow_pending (s : State) (count : Nat) : (s.creditWindow count).pending = s.pending := rfl

end Sys2Proof.Machine
end

