-- ==== Sys2Proof/Laws/Records.lean ====
section
/-! SUPPORT. What each update leaves of the numbered records, and what the changes of all sessions or all slots do. -/

namespace Sys2Proof.Machine

/-! ### The record that was put, and the others -/

@[simp] theorem State.setSession_session (s : State) (i k : SessionId) (x : Session) :
    (s.setSession i x).session k = if k = i then x else s.session k := by
  simp only [State.setSession, State.session, Vector.getElem_set, Fin.ext_iff, eq_comm]

@[simp] theorem State.modifySession_session (s : State) (i k : SessionId) (f : Session → Session) :
    (s.modifySession i f).session k = if k = i then f (s.session i) else s.session k :=
  s.setSession_session i k _

@[simp] theorem State.setSlot_slot (s : State) (j k : SlotId) (x : Slot) :
    (s.setSlot j x).slot k = if k = j then x else s.slot k := by
  simp only [State.setSlot, State.slot, Vector.getElem_set, Fin.ext_iff, eq_comm]

@[simp] theorem State.freeSlotAt_slot (s : State) (j k : SlotId) :
    (s.freeSlotAt j).slot k = if k = j then .free else s.slot k :=
  s.setSlot_slot j k _

@[simp] theorem State.setClient_client (s : State) (c k : ClientId) (x : Client) :
    (s.setClient c x).client k = if k = c then x else s.client k := by
  simp only [State.setClient, State.client, Vector.getElem_set, Fin.ext_iff, eq_comm]

@[simp] theorem State.answerClient_client (s : State) (c k : ClientId) (a : PlayoutAnswer) :
    (s.answerClient c a).client k = if k = c then { s.client c with answer := a } else s.client k :=
  s.setClient_client c k _

@[simp] theorem State.setLadder_ladder (s : State) (l k : LadderId) (x : Ladder) :
    (s.setLadder l x).ladder k = if k = l then x else s.ladder k := by
  simp only [State.setLadder, State.ladder, Vector.getElem_set, Fin.ext_iff, eq_comm]

@[simp] theorem State.notify_noticesOf (s : State) (i k : SessionId) (n : SessionKind) :
    (s.notify i n).noticesOf k = if k = i then s.noticesOf i ||| BitVec.twoPow 7 n.bit else s.noticesOf k := by
  simp only [State.notify, State.judgeAttn, State.noticesOf, Vector.getElem_set, Fin.ext_iff, eq_comm]

/-! ### Two states with the same records are the same in them -/

theorem sessions_ext {s t : State} (h : ∀ i, s.session i = t.session i) : s.sessions = t.sessions :=
  Vector.ext fun i hi => h ⟨i, hi⟩

theorem slots_ext {s t : State} (h : ∀ j, s.slot j = t.slot j) : s.slots = t.slots :=
  Vector.ext fun j hj => h ⟨j, hj⟩

/-! ### The records an update does not touch -/

@[simp] theorem State.setSession_slot (s : State) (i : SessionId) (x : Session) (k : SlotId) : (s.setSession i x).slot k = s.slot k := rfl
@[simp] theorem State.setSession_client (s : State) (i : SessionId) (x : Session) (k : ClientId) : (s.setSession i x).client k = s.client k := rfl
@[simp] theorem State.setSession_ladder (s : State) (i : SessionId) (x : Session) (k : LadderId) : (s.setSession i x).ladder k = s.ladder k := rfl
@[simp] theorem State.setSession_noticesOf (s : State) (i : SessionId) (x : Session) (k : SessionId) : (s.setSession i x).noticesOf k = s.noticesOf k := rfl
@[simp] theorem State.modifySession_slot (s : State) (i : SessionId) (f : Session → Session) (k : SlotId) : (s.modifySession i f).slot k = s.slot k := rfl
@[simp] theorem State.modifySession_client (s : State) (i : SessionId) (f : Session → Session) (k : ClientId) : (s.modifySession i f).client k = s.client k := rfl
@[simp] theorem State.modifySession_ladder (s : State) (i : SessionId) (f : Session → Session) (k : LadderId) : (s.modifySession i f).ladder k = s.ladder k := rfl
@[simp] theorem State.modifySession_noticesOf (s : State) (i : SessionId) (f : Session → Session) (k : SessionId) : (s.modifySession i f).noticesOf k = s.noticesOf k := rfl
@[simp] theorem State.setSlot_session (s : State) (j : SlotId) (x : Slot) (k : SessionId) : (s.setSlot j x).session k = s.session k := rfl
@[simp] theorem State.setSlot_client (s : State) (j : SlotId) (x : Slot) (k : ClientId) : (s.setSlot j x).client k = s.client k := rfl
@[simp] theorem State.setSlot_ladder (s : State) (j : SlotId) (x : Slot) (k : LadderId) : (s.setSlot j x).ladder k = s.ladder k := rfl
@[simp] theorem State.setSlot_noticesOf (s : State) (j : SlotId) (x : Slot) (k : SessionId) : (s.setSlot j x).noticesOf k = s.noticesOf k := rfl
@[simp] theorem State.freeSlotAt_session (s : State) (j : SlotId) (k : SessionId) : (s.freeSlotAt j).session k = s.session k := rfl
@[simp] theorem State.freeSlotAt_client (s : State) (j : SlotId) (k : ClientId) : (s.freeSlotAt j).client k = s.client k := rfl
@[simp] theorem State.freeSlotAt_ladder (s : State) (j : SlotId) (k : LadderId) : (s.freeSlotAt j).ladder k = s.ladder k := rfl
@[simp] theorem State.freeSlotAt_noticesOf (s : State) (j : SlotId) (k : SessionId) : (s.freeSlotAt j).noticesOf k = s.noticesOf k := rfl
@[simp] theorem State.setClient_session (s : State) (c : ClientId) (x : Client) (k : SessionId) : (s.setClient c x).session k = s.session k := rfl
@[simp] theorem State.setClient_slot (s : State) (c : ClientId) (x : Client) (k : SlotId) : (s.setClient c x).slot k = s.slot k := rfl
@[simp] theorem State.setClient_ladder (s : State) (c : ClientId) (x : Client) (k : LadderId) : (s.setClient c x).ladder k = s.ladder k := rfl
@[simp] theorem State.setClient_noticesOf (s : State) (c : ClientId) (x : Client) (k : SessionId) : (s.setClient c x).noticesOf k = s.noticesOf k := rfl
@[simp] theorem State.setLadder_session (s : State) (l : LadderId) (x : Ladder) (k : SessionId) : (s.setLadder l x).session k = s.session k := rfl
@[simp] theorem State.setLadder_slot (s : State) (l : LadderId) (x : Ladder) (k : SlotId) : (s.setLadder l x).slot k = s.slot k := rfl
@[simp] theorem State.setLadder_client (s : State) (l : LadderId) (x : Ladder) (k : ClientId) : (s.setLadder l x).client k = s.client k := rfl
@[simp] theorem State.setLadder_noticesOf (s : State) (l : LadderId) (x : Ladder) (k : SessionId) : (s.setLadder l x).noticesOf k = s.noticesOf k := rfl
@[simp] theorem State.updateEntry_slot (s : State) (r : EntryRef) (f : Entry → Entry) (k : SlotId) : (s.updateEntry r f).slot k = s.slot k := rfl
@[simp] theorem State.updateEntry_client (s : State) (r : EntryRef) (f : Entry → Entry) (k : ClientId) : (s.updateEntry r f).client k = s.client k := rfl
@[simp] theorem State.updateEntry_ladder (s : State) (r : EntryRef) (f : Entry → Entry) (k : LadderId) : (s.updateEntry r f).ladder k = s.ladder k := rfl
@[simp] theorem State.updateEntry_noticesOf (s : State) (r : EntryRef) (f : Entry → Entry) (k : SessionId) : (s.updateEntry r f).noticesOf k = s.noticesOf k := rfl
@[simp] theorem State.judgeAttn_session (s : State) (k : SessionId) : (s.judgeAttn).session k = s.session k := rfl
@[simp] theorem State.judgeAttn_slot (s : State) (k : SlotId) : (s.judgeAttn).slot k = s.slot k := rfl
@[simp] theorem State.judgeAttn_client (s : State) (k : ClientId) : (s.judgeAttn).client k = s.client k := rfl
@[simp] theorem State.judgeAttn_ladder (s : State) (k : LadderId) : (s.judgeAttn).ladder k = s.ladder k := rfl
@[simp] theorem State.judgeAttn_noticesOf (s : State) (k : SessionId) : (s.judgeAttn).noticesOf k = s.noticesOf k := rfl
@[simp] theorem State.notify_session (s : State) (i : SessionId) (n : SessionKind) (k : SessionId) : (s.notify i n).session k = s.session k := rfl
@[simp] theorem State.notify_slot (s : State) (i : SessionId) (n : SessionKind) (k : SlotId) : (s.notify i n).slot k = s.slot k := rfl
@[simp] theorem State.notify_client (s : State) (i : SessionId) (n : SessionKind) (k : ClientId) : (s.notify i n).client k = s.client k := rfl
@[simp] theorem State.notify_ladder (s : State) (i : SessionId) (n : SessionKind) (k : LadderId) : (s.notify i n).ladder k = s.ladder k := rfl
@[simp] theorem State.notifyPart_session (s : State) (n : PartKind) (k : SessionId) : (s.notifyPart n).session k = s.session k := rfl
@[simp] theorem State.notifyPart_slot (s : State) (n : PartKind) (k : SlotId) : (s.notifyPart n).slot k = s.slot k := rfl
@[simp] theorem State.notifyPart_client (s : State) (n : PartKind) (k : ClientId) : (s.notifyPart n).client k = s.client k := rfl
@[simp] theorem State.notifyPart_ladder (s : State) (n : PartKind) (k : LadderId) : (s.notifyPart n).ladder k = s.ladder k := rfl
@[simp] theorem State.notifyPart_noticesOf (s : State) (n : PartKind) (k : SessionId) : (s.notifyPart n).noticesOf k = s.noticesOf k := rfl
@[simp] theorem State.reply_session (s : State) (status : Status) (payload : List Byte) (k : SessionId) : (s.reply status payload).session k = s.session k := rfl
@[simp] theorem State.reply_slot (s : State) (status : Status) (payload : List Byte) (k : SlotId) : (s.reply status payload).slot k = s.slot k := rfl
@[simp] theorem State.reply_client (s : State) (status : Status) (payload : List Byte) (k : ClientId) : (s.reply status payload).client k = s.client k := rfl
@[simp] theorem State.reply_ladder (s : State) (status : Status) (payload : List Byte) (k : LadderId) : (s.reply status payload).ladder k = s.ladder k := rfl
@[simp] theorem State.reply_noticesOf (s : State) (status : Status) (payload : List Byte) (k : SessionId) : (s.reply status payload).noticesOf k = s.noticesOf k := rfl
@[simp] theorem State.respond_session (s : State) (status : Status) (k : SessionId) : (s.respond status).session k = s.session k := rfl
@[simp] theorem State.respond_slot (s : State) (status : Status) (k : SlotId) : (s.respond status).slot k = s.slot k := rfl
@[simp] theorem State.respond_client (s : State) (status : Status) (k : ClientId) : (s.respond status).client k = s.client k := rfl
@[simp] theorem State.respond_ladder (s : State) (status : Status) (k : LadderId) : (s.respond status).ladder k = s.ladder k := rfl
@[simp] theorem State.respond_noticesOf (s : State) (status : Status) (k : SessionId) : (s.respond status).noticesOf k = s.noticesOf k := rfl
@[simp] theorem State.respondWith_session (s : State) (payload : List Byte) (k : SessionId) : (s.respondWith payload).session k = s.session k := rfl
@[simp] theorem State.respondWith_slot (s : State) (payload : List Byte) (k : SlotId) : (s.respondWith payload).slot k = s.slot k := rfl
@[simp] theorem State.respondWith_client (s : State) (payload : List Byte) (k : ClientId) : (s.respondWith payload).client k = s.client k := rfl
@[simp] theorem State.respondWith_ladder (s : State) (payload : List Byte) (k : LadderId) : (s.respondWith payload).ladder k = s.ladder k := rfl
@[simp] theorem State.respondWith_noticesOf (s : State) (payload : List Byte) (k : SessionId) : (s.respondWith payload).noticesOf k = s.noticesOf k := rfl
@[simp] theorem State.answerFetch_session (s : State) (a : FetchAnswer) (k : SessionId) : (s.answerFetch a).session k = s.session k := rfl
@[simp] theorem State.answerFetch_slot (s : State) (a : FetchAnswer) (k : SlotId) : (s.answerFetch a).slot k = s.slot k := rfl
@[simp] theorem State.answerFetch_client (s : State) (a : FetchAnswer) (k : ClientId) : (s.answerFetch a).client k = s.client k := rfl
@[simp] theorem State.answerFetch_ladder (s : State) (a : FetchAnswer) (k : LadderId) : (s.answerFetch a).ladder k = s.ladder k := rfl
@[simp] theorem State.answerFetch_noticesOf (s : State) (a : FetchAnswer) (k : SessionId) : (s.answerFetch a).noticesOf k = s.noticesOf k := rfl
@[simp] theorem State.answerClient_session (s : State) (c : ClientId) (a : PlayoutAnswer) (k : SessionId) : (s.answerClient c a).session k = s.session k := rfl
@[simp] theorem State.answerClient_slot (s : State) (c : ClientId) (a : PlayoutAnswer) (k : SlotId) : (s.answerClient c a).slot k = s.slot k := rfl
@[simp] theorem State.answerClient_ladder (s : State) (c : ClientId) (a : PlayoutAnswer) (k : LadderId) : (s.answerClient c a).ladder k = s.ladder k := rfl
@[simp] theorem State.answerClient_noticesOf (s : State) (c : ClientId) (a : PlayoutAnswer) (k : SessionId) : (s.answerClient c a).noticesOf k = s.noticesOf k := rfl
@[simp] theorem State.creditWindow_session (s : State) (count : Nat) (k : SessionId) : (s.creditWindow count).session k = s.session k := rfl
@[simp] theorem State.creditWindow_slot (s : State) (count : Nat) (k : SlotId) : (s.creditWindow count).slot k = s.slot k := rfl
@[simp] theorem State.creditWindow_client (s : State) (count : Nat) (k : ClientId) : (s.creditWindow count).client k = s.client k := rfl
@[simp] theorem State.creditWindow_ladder (s : State) (count : Nat) (k : LadderId) : (s.creditWindow count).ladder k = s.ladder k := rfl
@[simp] theorem State.creditWindow_noticesOf (s : State) (count : Nat) (k : SessionId) : (s.creditWindow count).noticesOf k = s.noticesOf k := rfl

/-! ### Every session, every slot -/

theorem foldl_modifySession_frame (f : SessionId → Session → Session) (is : List SessionId) (s : State) :
    is.foldl (fun s i => s.modifySession i (f i)) s
      = { s with sessions := (is.foldl (fun s i => s.modifySession i (f i)) s).sessions } := by
  induction is generalizing s with
  | nil => rfl
  | cons i is ih => simp only [List.foldl_cons]; rw [ih]; rfl

theorem foldl_modifySession_session (f : SessionId → Session → Session) (is : List SessionId) (s : State) (k : SessionId)
    (nodup : is.Nodup) :
    (is.foldl (fun s i => s.modifySession i (f i)) s).session k
      = if k ∈ is then f k (s.session k) else s.session k := by
  induction is generalizing s with
  | nil => rfl
  | cons i is ih =>
    obtain ⟨fresh, rest⟩ := List.nodup_cons.mp nodup
    rw [List.foldl_cons, ih _ rest]
    by_cases same : k = i
    · subst same; simp [fresh]
    · simp [same]

theorem State.mapSessions_frame (s : State) (f : SessionId → Session → Session) :
    s.mapSessions f = { s with sessions := (s.mapSessions f).sessions } :=
  foldl_modifySession_frame f allSessions s

theorem mem_allSessions : ∀ i : SessionId, i ∈ allSessions := by decide

theorem mem_allSlots : ∀ j : SlotId, j ∈ allSlots := by decide

@[simp] theorem State.mapSessions_session (s : State) (f : SessionId → Session → Session) (k : SessionId) :
    (s.mapSessions f).session k = f k (s.session k) := by
  rw [State.mapSessions, foldl_modifySession_session f _ _ _ (by decide), if_pos (mem_allSessions k)]

theorem foldl_setSlot_frame (f : Slot → Slot) (js : List SlotId) (s : State) :
    js.foldl (fun s j => s.setSlot j (f (s.slot j))) s
      = { s with slots := (js.foldl (fun s j => s.setSlot j (f (s.slot j))) s).slots } := by
  induction js generalizing s with
  | nil => rfl
  | cons j js ih => simp only [List.foldl_cons]; rw [ih]; rfl

theorem foldl_setSlot_slot (f : Slot → Slot) (js : List SlotId) (s : State) (k : SlotId) (nodup : js.Nodup) :
    (js.foldl (fun s j => s.setSlot j (f (s.slot j))) s).slot k = if k ∈ js then f (s.slot k) else s.slot k := by
  induction js generalizing s with
  | nil => rfl
  | cons j js ih =>
    obtain ⟨fresh, rest⟩ := List.nodup_cons.mp nodup
    rw [List.foldl_cons, ih _ rest]
    by_cases same : k = j
    · subst same; simp [fresh]
    · simp [same]

theorem State.mapSlots_frame (s : State) (f : Slot → Slot) :
    s.mapSlots f = { s with slots := (s.mapSlots f).slots } :=
  foldl_setSlot_frame f allSlots s

@[simp] theorem State.mapSlots_slot (s : State) (f : Slot → Slot) (k : SlotId) :
    (s.mapSlots f).slot k = f (s.slot k) := by
  rw [State.mapSlots, foldl_setSlot_slot f _ _ _ (by decide), if_pos (mem_allSlots k)]

/-! ### The held flag and the end of a held session (R61, R191) -/

@[simp] theorem Session.unheld_state (x : Session) : x.unheld.state = x.state := rfl
@[simp] theorem Session.unheld_config (x : Session) : x.unheld.config = x.config := rfl
@[simp] theorem Session.unheld_ledger (x : Session) : x.unheld.ledger = x.ledger := rfl
@[simp] theorem Session.unheld_stats (x : Session) : x.unheld.stats = x.stats := rfl
@[simp] theorem Session.unheld_share (x : Session) : x.unheld.share = x.share := rfl
@[simp] theorem Session.unheld_parked (x : Session) : x.unheld.parked = x.parked := rfl
@[simp] theorem Session.unheld_held (x : Session) : x.unheld.held = false := rfl

/-! ### Searches over the slots -/

/-- A tag found belongs to the slot found; a tag not found belongs to none. -/
theorem State.slotOfTag_some {s : State} {t : Nat} {j : SlotId} (h : s.slotOfTag t = some j) :
    (s.slot j).tag? = some t := by
  simpa using List.find?_some h

theorem State.slotOfTag_none {s : State} {t : Nat} (h : s.slotOfTag t = none) (j : SlotId) :
    (s.slot j).tag? ≠ some t := by
  simpa using List.find?_eq_none.mp h j (mem_allSlots j)

theorem State.freeSlot_some {s : State} {j : SlotId} (h : s.freeSlot = some j) : s.slot j = .free := by
  simpa using List.find?_some h

theorem State.clientOf_some {s : State} {i : SessionId} {c : ClientId} (h : s.clientOf i = some c) :
    (s.client c).binding = some i := by
  simpa using List.find?_some h

theorem State.clientOf_none {s : State} {i : SessionId} (h : s.clientOf i = none) (c : ClientId) :
    (s.client c).binding ≠ some i := by
  simpa using List.find?_eq_none.mp h c (mem_allSessions c)

end Sys2Proof.Machine
end

