-- ==== Sys2Proof/Laws/Budget.lean ====
section
/-! SUPPORT. What a recompute and the moves into and out of the started states can do: the fields they leave alone, and what they make of the
session records. -/

namespace Sys2Proof.Machine

/-- From `s` to `t` nothing but what a recompute writes has changed. -/
def State.BudgetOnly (s t : State) : Prop := t = s.budgetFrom t

theorem State.BudgetOnly.trans {s t u : State} (h : s.BudgetOnly t) (k : t.BudgetOnly u) : s.BudgetOnly u := by
  unfold State.BudgetOnly at *
  rw [h] at k; exact k

theorem State.mapSessions_budget (s : State) (f : SessionId → Session → Session) : s.BudgetOnly (s.mapSessions f) := by
  unfold State.BudgetOnly; rw [State.mapSessions_frame]; rfl

theorem State.park_frame (s : State) : s.BudgetOnly s.park := by
  have h := s.mapSessions_budget fun _ x => if x.state.started && x.isBackground then { x with parked := true } else x
  exact h.trans rfl

theorem State.unpark_frame (s : State) : s.BudgetOnly s.unpark := by
  have h := s.mapSessions_budget fun _ x => { x with parked := false }
  exact h.trans rfl

theorem State.reviewParking_frame (s : State) : s.BudgetOnly s.reviewParking := by
  unfold State.reviewParking
  split
  · exact s.park_frame
  · split
    · exact s.unpark_frame
    · rfl

theorem State.reviewCongestion_frame (s : State) : s.BudgetOnly s.reviewCongestion := by
  unfold State.reviewCongestion; simp only; split <;> rfl

/-- A recompute changes U, the two flags, the parked flags and shares, the part notices and ATTN only (R21). -/
theorem State.recompute_frame (s : State) : s.BudgetOnly s.recompute := by
  unfold State.recompute
  generalize hs : ({ s with usable := usableBudget s.meter.capacity s.params.safety s.params.headroom } : State) = s₀
  have h₀ : s.BudgetOnly s₀ := by subst hs; rfl
  exact ((h₀.trans s₀.reviewParking_frame).trans (State.mapSessions_budget _ _)).trans (State.reviewCongestion_frame _)

theorem State.recomputeIf_frame (s : State) (cause : Bool) : s.BudgetOnly (s.recomputeIf cause) := by
  unfold State.recomputeIf; split
  · exact s.recompute_frame
  · rfl

/-- A capacity estimate presented: the Link Meter as given, and what a recompute may change. -/
theorem State.present_frame (s : State) (m : Meter) : ({ s with meter := m } : State).BudgetOnly (s.present m) :=
  State.recomputeIf_frame _ _

/-! ### The session records -/

theorem Session.sameButBudget_refl (x : Session) : x.sameButBudget x := rfl

theorem Session.sameButBudget_trans {x y z : Session} (h : x.sameButBudget y) (k : y.sameButBudget z) :
    x.sameButBudget z := by
  unfold Session.sameButBudget at *
  rw [h] at k; exact k

theorem State.park_session (s : State) (i : SessionId) :
    s.park.session i
      = if (s.session i).state.started && (s.session i).isBackground then { s.session i with parked := true }
        else s.session i :=
  s.mapSessions_session (fun _ x => if x.state.started && x.isBackground then { x with parked := true } else x) i

theorem State.unpark_session (s : State) (i : SessionId) : s.unpark.session i = { s.session i with parked := false } :=
  s.mapSessions_session (fun _ x => { x with parked := false }) i

theorem State.reviewParking_session (s : State) (i : SessionId) :
    (s.session i).sameButBudget (s.reviewParking.session i) := by
  unfold State.reviewParking
  split
  · rw [State.park_session]; split <;> rfl
  · split
    · rw [State.unpark_session]; rfl
    · rfl

theorem State.giveShares_session (s : State) (i : SessionId) :
    s.giveShares.session i = { s.session i with share := s.shareOf i } := by
  unfold State.giveShares; rw [State.mapSessions_session]

theorem State.reviewCongestion_session (s : State) (i : SessionId) : s.reviewCongestion.session i = s.session i := by
  unfold State.reviewCongestion; simp only; split <;> rfl

/-- A recompute changes of a session its parked flag and its share only. -/
theorem State.recompute_session (s : State) (i : SessionId) : (s.session i).sameButBudget (s.recompute.session i) := by
  unfold State.recompute
  rw [State.reviewCongestion_session, State.giveShares_session]
  generalize hs : ({ s with usable := usableBudget s.meter.capacity s.params.safety s.params.headroom } : State) = s₀
  have same : s.session i = s₀.session i := by subst hs; rfl
  rw [same]
  exact Session.sameButBudget_trans (s₀.reviewParking_session i) rfl

theorem State.recomputeIf_session (s : State) (cause : Bool) (i : SessionId) :
    (s.session i).sameButBudget ((s.recomputeIf cause).session i) := by
  unfold State.recomputeIf; split
  · exact s.recompute_session i
  · rfl

/-- Step 1 of a recompute (R20). -/
theorem State.recompute_usable (s : State) :
    s.recompute.usable = usableBudget s.meter.capacity s.params.safety s.params.headroom := by
  unfold State.recompute
  generalize hs : ({ s with usable := usableBudget s.meter.capacity s.params.safety s.params.headroom } : State) = s₀
  have h₁ : s₀.reviewParking.giveShares.reviewCongestion.usable = s₀.usable := by
    unfold State.reviewCongestion; simp only; split <;>
    · unfold State.giveShares
      rw [State.mapSessions_frame]
      show s₀.reviewParking.usable = s₀.usable
      unfold State.reviewParking State.park State.unpark
      split
      · rw [State.mapSessions_frame]; rfl
      · split
        · rw [State.mapSessions_frame]; rfl
        · rfl
  rw [h₁, ← hs]

/-! ### What the sums read -/

/-- A session's share of the budget depends on U, on every session's state, parked flag, ladder slot and weight, and on the ladders. -/
theorem State.shareOf_congr {s t : State} (usable : s.usable = t.usable) (ladders : s.ladders = t.ladders)
    (sessions : ∀ i, (s.session i).state = (t.session i).state ∧ (s.session i).parked = (t.session i).parked
      ∧ (s.session i).config = (t.session i).config) (i : SessionId) : s.shareOf i = t.shareOf i := by
  have holds : s.holdsShare = t.holdsShare := by
    funext k; simp [State.holdsShare, State.isStarted, sessions k]
  have floors : s.floorOf = t.floorOf := by
    funext k; simp [State.floorOf, State.ladderOf, State.ladder, ladders, sessions k]
  have weights : (fun k => (s.session k).config.weight) = fun k => (t.session k).config.weight := by
    funext k; rw [(sessions k).2.2]
  unfold State.shareOf State.floorSum State.weightSum
  rw [holds, floors, usable, weights, (sessions i).2.2]

theorem State.floorSumViewed_congr {s t : State} (ladders : s.ladders = t.ladders)
    (sessions : ∀ i, (s.session i).state = (t.session i).state ∧ (s.session i).parked = (t.session i).parked
      ∧ (s.session i).config = (t.session i).config) : s.floorSumViewed = t.floorSumViewed := by
  have holds : s.holdsShare = t.holdsShare := by
    funext k; simp [State.holdsShare, State.isStarted, sessions k]
  have floors : s.floorOf = t.floorOf := by
    funext k; simp [State.floorOf, State.ladderOf, State.ladder, ladders, sessions k]
  simp [State.floorSumViewed, holds, floors, Session.isBackground, sessions]

end Sys2Proof.Machine
end

