-- ==== Sys2Proof/Laws/Events.lean ====
section
/-! SUPPORT. What the expiries that a fault leaves owed can change, how a NEXT of a DRAINING session is answered, and what a port shifts out. -/

namespace Sys2Proof.Machine

/-! ### Expiries owed (log 23) -/

@[simp] theorem Slot.owing_free (owed : Bool) : Slot.free.owing owed = .free := rfl
@[simp] theorem Slot.owing_queued (owed : Bool) (tag : Nat) (r : EntryRef) : (Slot.queued tag r).owing owed = .queued tag r := rfl
@[simp] theorem Slot.owing_taken (owed : Bool) (tag : Nat) (r : EntryRef) (elapsed limit : Nat) :
    (Slot.taken tag r elapsed limit).owing owed = .taken tag r elapsed limit := rfl
@[simp] theorem Slot.owing_cancelling (owed : Bool) (tag : Nat) (back : Option EntryRef) (kept : Issue) (o : Bool) :
    (Slot.cancelling tag back kept o).owing owed = .cancelling tag back kept owed := rfl
@[simp] theorem Slot.owing_owing (a b : Bool) (x : Slot) : (x.owing b).owing a = x.owing a := by cases x <;> rfl

theorem State.oweExpiries_frame (s before : State) (j : SlotId) :
    s.oweExpiries before j = { s with slots := (s.oweExpiries before j).slots } :=
  foldl_setSlot_frame (Slot.owing true) _ s

/-- The slots that owe an expiry after one at slot `j`: the others that were due and that it has left CANCELLING. -/
@[simp] theorem State.oweExpiries_slot (s before : State) (j k : SlotId) :
    (s.oweExpiries before j).slot k
      = if k ≠ j ∧ before.watchdogDue k = true then (s.slot k).owing true else s.slot k := by
  rw [State.oweExpiries, foldl_setSlot_slot (Slot.owing true) _ _ _ (List.Pairwise.filter _ (by decide : allSlots.Nodup))]
  simp [List.mem_filter, mem_allSlots]

/-- An owed expiry: F halved, the slot's debt paid, and what a recompute may change. -/
theorem State.expireOwed_frame (s : State) (j : SlotId) :
    ({ s.setSlot j ((s.slot j).owing false) with meter := s.meter.halve } : State).BudgetOnly (s.expireOwed j) :=
  State.present_frame _ _

/-! ### A NEXT for a session in DRAINING (log 25) -/

/-- Drain completion, held or not. -/
theorem State.answerNext_emptied {s : State} {i : SessionId} (c : ClientId) (draining : (s.session i).state = .draining)
    (empty : (s.session i).ledger = []) :
    s.answerNext c i = (s.completeDrain i).answerHalt c .ended := by
  simp [State.answerNext, draining, empty]

/-- A held session in DRAINING with entries left waits (R191). -/
theorem State.answerNext_held {s : State} {i : SessionId} (c : ClientId) (draining : (s.session i).state = .draining)
    (entries : (s.session i).ledger ≠ []) (held : (s.session i).held = true) : s.answerNext c i = s.answerWait c .held := by
  simp [State.answerNext, draining, entries, held]

/-! ### What a port shifts out (R172, R117, R158, R187) -/

@[simp] theorem shiftedOut_length (answer : List Byte) (count : Nat) : (shiftedOut answer count).length = count := by
  simp [shiftedOut]

/-- The bytes of the answer, then 0s. -/
theorem shiftedOut_get (answer : List Byte) (count n : Nat) (lt : n < count) :
    (shiftedOut answer count)[n]? = some (answer.getD n 0) := by
  simp only [shiftedOut, List.getElem?_take, lt, ↓reduceIte, List.getD_eq_getElem?_getD]
  by_cases h : n < answer.length
  · rw [List.getElem?_append_left h, List.getElem?_eq_getElem h]; rfl
  · have h := Nat.le_of_not_lt h
    rw [List.getElem?_append_right h, List.getElem?_eq_none h, List.getElem?_replicate_of_lt (by omega)]; rfl

end Sys2Proof.Machine
end

