-- ==== Sys2Proof/Laws/Ledger.lean ====
section
/-! SUPPORT. What withdrawal, cancellation, release, flush, and what follows a change of a ledger can do: for each, the fields it leaves
alone, and what it makes of the ledgers and of the pool. -/

namespace Sys2Proof.Machine

/-! ### Slots: withdrawal and cancellation touch the slots, the order queue, the cancel list and the choice counter only -/

/-- The fields the disposal of fetches may change, taken from another state. -/
def State.fetchesFrom (s t : State) : State :=
  { s with
    slots := t.slots
    orderQueue := t.orderQueue
    cancelList := t.cancelList
    openChoices := t.openChoices }

/-- From `s` to `t` nothing but those fields has changed. -/
def State.FetchesOnly (s t : State) : Prop := t = s.fetchesFrom t

theorem State.FetchesOnly.trans {s t u : State} (h : s.FetchesOnly t) (k : t.FetchesOnly u) : s.FetchesOnly u := by
  unfold State.FetchesOnly at *
  rw [h] at k; exact k

theorem State.withdraw_frame (s : State) (r : EntryRef) : s.FetchesOnly (s.withdraw r) := by
  unfold State.withdraw; split <;> rfl

theorem State.cancelSlot_frame (s : State) (j : SlotId) (keep : Bool) : s.FetchesOnly (s.cancelSlot j keep) := by
  unfold State.cancelSlot; split <;> rfl

theorem State.cancelFetch_frame (s : State) (r : EntryRef) : s.FetchesOnly (s.cancelFetch r) := by
  unfold State.cancelFetch; split
  · exact State.cancelSlot_frame ..
  · rfl

theorem State.clearBacks_frame (s : State) (r : EntryRef) : s.FetchesOnly (s.clearBacks r) := by
  unfold State.clearBacks; rw [State.mapSlots_frame]; rfl

theorem State.choiceMade_frame (s : State) (es : List Entry) : s.FetchesOnly (s.choiceMade es) := by
  unfold State.choiceMade; split <;> rfl

theorem foldl_frame {α : Type} {f : State → α → State} (frame : ∀ (s : State) (a : α), s.FetchesOnly (f s a)) (l : List α)
    (s : State) : s.FetchesOnly (l.foldl f s) := by
  induction l generalizing s with
  | nil => rfl
  | cons a l ih => exact (frame s a).trans (ih (f s a))

theorem State.disposeFetches_frame (s : State) (i : SessionId) (gone : List Entry) :
    s.FetchesOnly (s.disposeFetches i gone) := by
  unfold State.disposeFetches
  extract_lets s₁ s₂
  have h₁ : s.FetchesOnly s₁ := foldl_frame (fun s (e : Entry) => s.withdraw_frame ⟨i, e.segment⟩) _ s
  have h₂ : s₁.FetchesOnly s₂ := foldl_frame (fun s (e : Entry) => s.cancelFetch_frame ⟨i, e.segment⟩) _ s₁
  have h₃ : s₂.FetchesOnly (s₂.choiceMade (s.fetched i gone)) := s₂.choiceMade_frame _
  have h₄ := foldl_frame (fun s (e : Entry) => s.clearBacks_frame ⟨i, e.segment⟩) gone (s₂.choiceMade (s.fetched i gone))
  exact ((h₁.trans h₂).trans h₃).trans h₄

/-! ### Release (R86) -/

/-- The fields a release may change, taken from another state. -/
def State.releasedFrom (s t : State) : State :=
  { s.fetchesFrom t with sessions := t.sessions, poolFree := t.poolFree }

theorem State.release_frame (s : State) (i : SessionId) (p : Entry → Bool) :
    s.release i p = s.releasedFrom (s.release i p) := by
  unfold State.release
  simp only
  rw [show s.disposeFetches i ((s.session i).ledger.filter p) = _ from s.disposeFetches_frame i _]
  rfl

/-- A release keeps of one ledger the entries that do not meet the condition, in order, and nothing else of any session. -/
@[simp] theorem State.release_session (s : State) (i k : SessionId) (p : Entry → Bool) :
    (s.release i p).session k
      = if k = i then { s.session i with ledger := (s.session i).ledger.filter fun e => !p e } else s.session k := by
  unfold State.release
  simp only [State.modifySession_session]
  rw [show s.disposeFetches i ((s.session i).ledger.filter p) = _ from s.disposeFetches_frame i _]
  rfl

/-- The pool receives the entries released. -/
@[simp] theorem State.release_poolFree (s : State) (i : SessionId) (p : Entry → Bool) :
    (s.release i p).poolFree = s.poolFree + ((s.session i).ledger.filter p).length := by
  unfold State.release
  simp only [State.modifySession_poolFree]
  rw [show s.disposeFetches i ((s.session i).ledger.filter p) = _ from s.disposeFetches_frame i _]
  rfl

theorem State.flush_frame (s : State) (i : SessionId) : s.flush i = s.releasedFrom (s.flush i) := by
  unfold State.flush
  rw [State.release_frame]
  rfl

/-- A flush leaves an empty ledger, the taint cleared, the gate open (R68). -/
@[simp] theorem State.flush_session (s : State) (i k : SessionId) :
    (s.flush i).session k
      = if k = i then { s.session i with ledger := [], tainted := false, gateOpen := true } else s.session k := by
  unfold State.flush
  by_cases same : k = i
  · subst same; simp
  · simp [same]

@[simp] theorem State.flush_poolFree (s : State) (i : SessionId) :
    (s.flush i).poolFree = s.poolFree + (s.session i).ledger.length := by
  simp [State.flush]

/-! ### What follows a change of a ledger (R94) -/

/-- The fields that notices and session records make up, taken from another state. -/
def State.noticedFrom (s t : State) : State :=
  { s with sessions := t.sessions, sessionNotices := t.sessionNotices, attn := t.attn }

theorem State.noticedFrom_trans {s t u : State} (h : t = s.noticedFrom t) (k : u = t.noticedFrom u) :
    u = s.noticedFrom u := by
  rw [h] at k; exact k

theorem State.retaint_frame (s : State) (i : SessionId) : s.retaint i = s.noticedFrom (s.retaint i) := by
  unfold State.retaint; simp only; split <;> rfl

theorem State.regate_frame (s : State) (i : SessionId) (before : List Entry) :
    s.regate i before = s.noticedFrom (s.regate i before) := by
  unfold State.regate; split <;> rfl

theorem State.startTest_frame (s : State) (i : SessionId) : s.startTest i = s.noticedFrom (s.startTest i) := by
  unfold State.startTest; split <;> rfl

theorem State.retest_frame (s : State) (i : SessionId) (before : List Entry) :
    s.retest i before = s.noticedFrom (s.retest i before) := by
  unfold State.retest; split
  · rfl
  · exact State.startTest_frame ..

theorem State.settle_frame (s : State) (i : SessionId) (before : List Entry) :
    s.settle i before = s.noticedFrom (s.settle i before) :=
  State.noticedFrom_trans (State.noticedFrom_trans (State.retaint_frame s i) (State.regate_frame _ i before))
    (State.retest_frame _ i before)

/-- The session record a taint review leaves (R95). -/
theorem State.retaint_session (s : State) (i k : SessionId) :
    (s.retaint i).session k
      = if k = i then { s.session i with tainted := anyShort (s.session i).ledger } else s.session k := by
  unfold State.retaint; simp only; split <;> simp

/-- The session record a gate review leaves (R72, R94). -/
theorem State.regate_session (s : State) (i k : SessionId) (before : List Entry) :
    (s.regate i before).session k
      = if k = i ∧ committedMs (s.session i).ledger ≠ committedMs before then (s.session i).evaluateGate
        else s.session k := by
  unfold State.regate
  split
  · next eq => simp [eq]
  · next ne => by_cases same : k = i <;> simp [ne, same]

/-- The session record the start and restart test leaves (R59). -/
theorem State.startTest_session (s : State) (i k : SessionId) :
    (s.startTest i).session k
      = if k = i ∧ (s.session i).passesStartTest then { s.session i with state := .running } else s.session k := by
  unfold State.startTest State.enterRunning
  split
  · next yes => by_cases same : k = i <;> simp [yes, same]
  · next no => simp [no]

@[simp] theorem Session.evaluateGate_ledger (x : Session) : x.evaluateGate.ledger = x.ledger := by
  unfold Session.evaluateGate; simp only; split
  · rfl
  · split <;> rfl

@[simp] theorem State.startTest_ledger (s : State) (i k : SessionId) :
    ((s.startTest i).session k).ledger = (s.session k).ledger := by
  rw [State.startTest_session]; split
  · next h => rw [h.1]
  · rfl

@[simp] theorem State.regate_ledger (s : State) (i k : SessionId) (before : List Entry) :
    ((s.regate i before).session k).ledger = (s.session k).ledger := by
  rw [State.regate_session]; split
  · next h => rw [h.1]; simp
  · rfl

@[simp] theorem State.retest_ledger (s : State) (i k : SessionId) (before : List Entry) :
    ((s.retest i before).session k).ledger = (s.session k).ledger := by
  unfold State.retest; split <;> simp

@[simp] theorem State.retaint_ledger (s : State) (i k : SessionId) :
    ((s.retaint i).session k).ledger = (s.session k).ledger := by
  rw [State.retaint_session]; split
  · next h => rw [h]
  · rfl

/-- What follows a change of a ledger leaves the ledgers as they are. -/
@[simp] theorem State.settle_ledger (s : State) (i k : SessionId) (before : List Entry) :
    ((s.settle i before).session k).ledger = (s.session k).ledger := by
  simp [State.settle]

/-! ### The sweep of a session that winds down (R66) -/

/-- The fields a sweep may change, taken from another state. -/
def State.sweptFrom (s t : State) : State :=
  { s.releasedFrom t with sessionNotices := t.sessionNotices, attn := t.attn }

theorem State.countSkips_frame (s : State) (i : SessionId) (n : Nat) :
    s.countSkips i n = s.noticedFrom (s.countSkips i n) := by
  unfold State.countSkips; split <;> rfl

@[simp] theorem State.countSkips_ledger (s : State) (i k : SessionId) (n : Nat) :
    ((s.countSkips i n).session k).ledger = (s.session k).ledger := by
  unfold State.countSkips
  split
  · rfl
  · by_cases same : k = i <;> simp [same]

theorem State.sweep_frame (s : State) (i : SessionId) : s.sweep i = s.sweptFrom (s.sweep i) := by
  unfold State.sweep
  split
  · rw [State.countSkips_frame, State.release_frame]; rfl
  · rfl

/-- A sweep removes the WAITING entries of a session in DRAINING or FAULTED, and nothing else of any ledger. -/
theorem State.sweep_ledger (s : State) (i k : SessionId) :
    ((s.sweep i).session k).ledger
      = if k = i ∧ (s.session i).state.winding then (s.session i).ledger.filter fun e => !e.isWaiting
        else (s.session k).ledger := by
  unfold State.sweep
  split
  · next yes => by_cases same : k = i <;> simp [yes, same]
  · next no => simp [no]

end Sys2Proof.Machine
end

