-- ==== Sys2Proof/Laws/Memory.lean ====
section
/-! SUPPORT. The staging buffers: every operation keeps the canonical form, and a read gives what was written last. -/

namespace Sys2Proof.Machine

theorem Memory.wfFrom_cons {lo a : Nat} {v : Byte} {m : Memory} :
    Memory.wfFrom lo ((a, v) :: m) = true ↔ (lo ≤ a ∧ a < 128 ∧ v ≠ 0) ∧ Memory.wfFrom (a + 1) m = true := by
  simp [Memory.wfFrom, and_assoc]

theorem Memory.wfFrom_mono {lo hi : Nat} {m : Memory} (h : Memory.wfFrom hi m = true) (le : lo ≤ hi) :
    Memory.wfFrom lo m = true := by
  cases m with
  | nil => rfl
  | cons c m =>
    obtain ⟨a, v⟩ := c
    rw [Memory.wfFrom_cons] at h ⊢
    exact ⟨⟨Nat.le_trans le h.1.1, h.1.2⟩, h.2⟩

/-- Below its first offset a canonical buffer reads 0. -/
theorem Memory.read_below {lo a : Nat} {m : Memory} (h : Memory.wfFrom lo m = true) (lt : a < lo) : m.read a = 0 := by
  induction m generalizing lo with
  | nil => rfl
  | cons c m ih =>
    obtain ⟨b, v⟩ := c
    obtain ⟨⟨le, -⟩, rest⟩ := Memory.wfFrom_cons.mp h
    rw [Memory.read, if_neg (by omega), ih rest (by omega)]

theorem Memory.wfFrom_write {lo : Nat} {m : Memory} (h : Memory.wfFrom lo m = true) {a : Nat} (lo_le : lo ≤ a)
    (lt : a < 128) (v : Byte) : Memory.wfFrom lo (m.write a v) = true := by
  induction m generalizing lo with
  | nil => by_cases z : v = 0#8 <;> simp [Memory.write, z, Memory.wfFrom, lo_le, lt]
  | cons c m ih =>
    obtain ⟨b, w⟩ := c
    obtain ⟨head, rest⟩ := Memory.wfFrom_cons.mp h
    rw [Memory.write]
    split
    · split
      · exact h
      · next less z =>
        exact Memory.wfFrom_cons.mpr ⟨⟨lo_le, lt, z⟩, Memory.wfFrom_cons.mpr ⟨⟨by omega, head.2⟩, rest⟩⟩
    · split
      · split
        · exact Memory.wfFrom_mono rest (by omega)
        · next eq z => exact Memory.wfFrom_cons.mpr ⟨⟨lo_le, lt, z⟩, eq ▸ rest⟩
      · exact Memory.wfFrom_cons.mpr ⟨head, ih rest (by omega)⟩

/-- Writing keeps the canonical form. -/
theorem Memory.wf_write {m : Memory} (h : m.wf = true) {a : Nat} (lt : a < 128) (v : Byte) : (m.write a v).wf = true :=
  Memory.wfFrom_write h (Nat.zero_le a) lt v

theorem Memory.read_write_from {lo : Nat} {m : Memory} (h : Memory.wfFrom lo m = true) (a b : Nat) (v : Byte) :
    (m.write a v).read b = if b = a then v else m.read b := by
  induction m generalizing lo with
  | nil => by_cases z : v = 0#8 <;> by_cases e : b = a <;> simp [Memory.write, Memory.read, z, e]
  | cons c m ih =>
    obtain ⟨k, w⟩ := c
    obtain ⟨head, rest⟩ := Memory.wfFrom_cons.mp h
    rw [Memory.write]
    by_cases e : b = a
    · subst e
      have none_below : ∀ lo', Memory.wfFrom lo' m = true → b < lo' → Memory.read m b = 0 := fun _ hm => Memory.read_below hm
      by_cases less : b < k
      · by_cases z : v = 0#8
        · simp [less, z, Memory.read, Nat.ne_of_lt less, none_below _ rest (by omega)]
        · simp [less, z, Memory.read]
      · by_cases same : b = k
        · by_cases z : v = 0#8
          · subst same; simp [z, none_below _ rest (by omega)]
          · simp [same, z, Memory.read]
        · simp [less, same, Memory.read, ih rest]
    · by_cases less : a < k
      · by_cases z : v = 0#8 <;> simp [less, z, Memory.read, e]
      · by_cases same : a = k
        · have ek : b ≠ k := same ▸ e
          by_cases z : v = 0#8 <;> simp [same, z, Memory.read, ek]
        · simp [less, same, Memory.read, ih rest, e]

/-- A read after a write gives the byte written, at every other offset what it gave before. -/
theorem Memory.read_write {m : Memory} (h : m.wf = true) (a b : Nat) (v : Byte) :
    (m.write a v).read b = if b = a then v else m.read b :=
  Memory.read_write_from h a b v

/-- Loading keeps the canonical form. -/
theorem Memory.wf_load {m : Memory} (h : m.wf = true) {offset : Nat} (lt : offset < 128) (data : List Byte) :
    (m.load offset data).wf = true := by
  induction data generalizing m offset with
  | nil => exact h
  | cons v vs ih => exact ih (Memory.wf_write h lt v) (Nat.mod_lt _ (by decide))

theorem Memory.wf_empty : Memory.wf [] = true := rfl

/-- A buffer after reset lists nothing. -/
theorem reset_staging_wf : State.reset.stagingA.wf = true ∧ State.reset.stagingB.wf = true := ⟨rfl, rfl⟩

end Sys2Proof.Machine
end

