-- ==== Sys2Proof/Tests/Slice0.lean ====
section
/-! SUPPORT. The well-formedness smoke test, one-step tests whose expected values are worked in spec/ or by hand from its rules, the ports'
bytes written out from the layouts of chapter 11, and for each statement with hypotheses a state and operands that meet them. -/

namespace Sys2Proof.Tests

open Sys2Proof Sys2Proof.Machine

/-! ### Small states -/

/-- An enabled rung. -/
def rung (bitrate : Nat) : Rung := ⟨bitrate, 720, 1, BitVec.ofNat 16 bitrate, true⟩

/-- A ladder of four rungs and 2000 ms segments. -/
def ladder4 : Ladder := ⟨2000, [rung 400, rung 800, rung 1600, rung 3000]⟩

/-- The issue copies of a rung of `ladder4`. -/
def issued (r bitrate : Nat) : Issue := ⟨r, bitrate, 1, 720, BitVec.ofNat 16 bitrate, 2000, bitrate * 250⟩

/-- An entry at rung 1 of `ladder4`. -/
def entry (segment : Nat) (state : EntryState) (tag : Option Nat) : Entry :=
  { segment := segment, state := state, issue := issued 1 800, reported := none, tag := tag, arrived := 0, total := none
    token := none, attempts := 0, notBefore := none, unavailableSince := none, upperBound := none, short := false
    lowered := false, retried := false, remaining := none }

/-- A WAITING entry due at once. -/
def waiting (segment : Nat) : Entry := { entry segment .waiting none with notBefore := some 0 }

/-- A READY entry of 2000 ms. -/
def ready (segment : Nat) : Entry := { entry segment .ready none with total := some 1000, token := some 7 }

/-- A session on `ladder4`, bound to client 0 in `stateOf`. -/
def sessionIn (state : SessionState) (ledger : List Entry) (next : Nat) : Session :=
  { Session.initial with
    state := state, currentRung := some 1, nextSegment := next, ledger := ledger
    share := if state.started then 1703 else 0 }

/-- The part after reset with `ladder4` in slot 0, a record for session 0 bound to client 0, and one fetch slot. -/
def stateOf (x : Session) (slot : Slot) : State :=
  let s := ((State.reset.setLadder 0 ladder4).setSession 0 x).setSlot 0 slot
  { s.setClient 0 ⟨some 0, false, false, none, .noAnswer⟩ with
    poolFree := 48 - x.ledger.length
    orderQueue := if slot.isQueued then [0] else []
    tagCounter := 2 }

/-- Session 0 fetching segment 0: its slot TAKEN under tag 1. -/
def fetching : State :=
  stateOf (sessionIn .priming [entry 0 .active (some 1)] 1) (.taken 1 ⟨0, 0⟩ 0 1500)

/-- The fetch of segment 0 given up: its slot CANCELLING, its entry WAITING. -/
def givenUp : State :=
  { stateOf (sessionIn .priming [waiting 0] 1) (.cancelling 1 (some ⟨0, 0⟩) (issued 1 800) false) with cancelList := [1] }

/-- A predicate of a next state; false of a fault and a refusal. -/
def holdsNext (o : Host.Outcome State Fault Refusal) (p : State → Bool) : Bool :=
  match o with
  | .next t => p t
  | .fault _ => false
  | .refused _ => false

/-- The outcome is a refusal. -/
def isRefused (o : Host.Outcome State Fault Refusal) : Bool :=
  match o with
  | .refused _ => true
  | .fault _ => false
  | .next _ => false

/-! ### Well-formedness: an ill-formed term for each check, refused -/

theorem test_wf_payload (payload : List Byte) (h : payload.length = 256) : (Instr.load payload).wf = false := by
  simp [Instr.wf, isPayload, h]
theorem test_wf_unknown_request : (Instr.unknownRequest 0x07 []).wf = false ∧ (Instr.unknownRequest 0x18 []).wf = false := by decide
theorem test_wf_unknown_record : (Instr.badRecord (.unknownCode 6)).wf = false ∧ (Instr.badRecord (.unknownCode 1)).wf = false := by decide
theorem test_wf_unknown_result : (Instr.badRecord (.unknownResult 9 5)).wf = false ∧ (Instr.badRecord (.unknownResult 9 1)).wf = false := by
  decide
theorem test_wf_malformed :
    (Instr.malformedTransfer 32 []).wf = false ∧ (Instr.malformedTransfer 32 [1]).wf = false
      ∧ (Instr.malformedTransfer 32 [2, 0, 0]).wf = false := by decide
theorem test_ill_formed_refused :
    (isRefused (exec (.unknownRequest 0x07 []) State.reset) && isRefused (exec (.badRecord (.unknownCode 6)) State.reset)
      && isRefused (exec (.badRecord (.unknownResult 9 5)) State.reset) && isRefused (exec (.malformedTransfer 32 [1]) State.reset)) = true := by
  decide

/-! ### The bytes of the three ports, written out from chapter 11 -/

theorem test_bytes_open : decodeControlFrame [0x07, 0x02, 0x03, 0x01] = some (.openSession [3, 1]) := by decide
theorem test_bytes_seek : decodeControlFrame [0x0D, 0x05, 0x02, 0, 0, 1, 0, 0xFF] = some (.seek [2, 0, 0, 1, 0]) := by decide
theorem test_bytes_short_frame : decodeControlFrame [0x07, 0x02, 0x03] = none := by decide
theorem test_bytes_unknown_request : decodeControlFrame [0x19, 0x00] = some (.unknownRequest 0x19 []) := by decide
theorem test_bytes_arrival : decodeFetchRecord [0x02, 5, 0x12, 0x34] = some (.arrival 5 0x1234) := by decide
theorem test_bytes_done :
    decodeFetchRecord [0x03, 9, 2, 0, 1, 0, 2, 0xA, 0xB, 0xC, 0xD, 0x07, 0xD0]
      = some (.done 9 .truncated 0x00010002 0x0A0B0C0D 2000) := by decide
theorem test_bytes_bad_result :
    decodeFetchRecord [0x03, 9, 6, 0, 0, 0, 0, 0, 0, 0, 0, 0, 0] = some (.badRecord (.unknownResult 9 6)) := by decide
theorem test_bytes_bad_code : decodeFetchRecord [0x07] = some (.badRecord (.unknownCode 7)) := by decide
theorem test_bytes_next : decodePlayoutWrite 33 [0x01] = some (.next 33) := by decide
theorem test_bytes_progress : decodePlayoutWrite 33 [0x02, 0x01, 0xF4] = some (.progress 33 500) := by decide
theorem test_bytes_malformed : decodePlayoutWrite 33 [0x02, 0x01] = some (.malformedTransfer 33 [0x02, 0x01]) := by decide
theorem test_table_gives_no_bits : decodeTableWord 8 1 = none := by decide

/-! ### One step of each command -/

/-- R157: the base address is 32 plus eight times the straps. -/
theorem test_power_on_base : holdsNext (exec (.powerOn 7) State.reset) (fun t => t.baseAddress == 88) = true := by decide
/-- R184: while RESET_N is low nothing is taken. -/
theorem test_reset_low_takes_nothing :
    holdsNext (exec .resetNFalls fetching) (fun t => t.inReset && holdsNext (exec .take t) (fun u => u == t)) = true := by decide
/-- R14: RESET_PART keeps the thin threshold and frees the slots. -/
theorem test_reset_part :
    holdsNext (exec (.resetPart []) { fetching with params := { State.reset.params with thinThreshold := 9 } })
      (fun t => t.params.thinThreshold == 9 && t.slot 0 == .free && (t.session 0).state == .closed) = true := by decide

/-- A SET-LINK payload: window length, thin threshold, initial estimate, safety, headroom, stall limit, retry interval, hold timeout. -/
def linkPayload (window safety headroom : Nat) : List Byte :=
  beBytes 2 window ++ beBytes 2 4096 ++ beBytes 4 2000 ++ beBytes 2 safety ++ beBytes 4 headroom ++ beBytes 2 1500 ++ beBytes 2 250
    ++ beBytes 2 4000

/-- R15: a window length of 10 is clamped to 20 and counted. -/
theorem test_set_link_clamps :
    holdsNext (exec (.setLink (linkPayload 10 218 0)) State.reset)
      (fun t => t.params.windowLength == 20 && t.response == some ⟨.clamped 1, []⟩) = true := by decide
/-- R20: k = 256 and H = 100 give U = 2000 - 100. -/
theorem test_set_link_recomputes :
    holdsNext (exec (.setLink (linkPayload 100 256 100)) State.reset) (fun t => t.usable == 1900) = true := by decide
/-- 11.2: READ-LINK after power-on; window length 100 first, U = 1703 at offset 44. -/
theorem test_read_link :
    holdsNext (exec (.readLink []) State.reset) (fun t => match t.response with
      | some r => beField r.payload 0 2 == 100 && beField r.payload 44 4 == 1703 && r.payload.length == 62
      | none => false) = true := by decide
/-- R35: after offset 127 the next byte goes at offset 0. -/
theorem test_load_wraps :
    holdsNext (exec (.load [1, 127, 5, 6]) State.reset)
      (fun t => t.stagingB.read 127 == 5 && t.stagingB.read 0 == 6 && t.stagingA == []) = true := by decide

/-- A rung record (11.5). -/
def record (bitrate enabled : Nat) : List Byte :=
  beBytes 4 bitrate ++ beBytes 2 720 ++ [1] ++ beBytes 2 bitrate ++ beBytes 1 enabled ++ List.replicate 6 0

/-- Staging buffer A holds three rung records: 400, 800, and one of 800 again. -/
def staged : State := { State.reset with stagingA := Memory.load [] 0 (record 400 1 ++ record 800 1 ++ record 800 0) }

/-- R37: bitrates that do not rise are refused with the index of the faulty rung. -/
theorem test_commit_refused :
    holdsNext (exec (.commit [0, 2, 3, 0x07, 0xD0]) staged) (fun t => t.response == some ⟨.ladder 2, []⟩ && t.ladder 2 == ⟨0, []⟩) = true := by
  decide
/-- R38: two good rungs are committed. -/
theorem test_commit :
    holdsNext (exec (.commit [0, 2, 2, 0x07, 0xD0]) staged)
      (fun t => t.ladder 2 == ⟨2000, [rung 400, rung 800]⟩ && t.response == some ⟨.normal, []⟩) = true := by decide
/-- R40: rung 0 stays enabled. -/
theorem test_patch_refused :
    holdsNext (exec (.patch ([0, 0, 16] ++ List.replicate 10 0)) fetching) (fun t => t.response == some ⟨.ladder 0, []⟩) = true := by
  decide
/-- R39: the named field of the named rung; R44, R190: rung 0 raised to 700 above the current rung's 400, a PIN on rung 2 stays at
its 1600. -/
theorem test_patch :
    (holdsNext (exec (.patch ([0, 3, 1] ++ beBytes 4 3500 ++ List.replicate 6 0)) fetching)
        (fun t => (t.ladder 0).bitrate 3 == 3500 && (t.ladder 0).bitrate 2 == 1600)
      && holdsNext (exec (.patch ([0, 0, 1] ++ beBytes 4 700 ++ List.replicate 6 0))
          (fetching.setSession 0 { fetching.session 0 with currentRung := some 0, reservation := .pin 2 }))
        (fun t => (t.session 0).currentRung == some 0 && (t.session 0).reservation == .pin 2)) = true := by decide
/-- R49: a slot without rungs reads a count of 0. -/
theorem test_read_ladder_empty :
    holdsNext (exec (.readLadder [7]) State.reset) (fun t => t.response == some ⟨.normal, [0, 0, 0, 0]⟩) = true := by decide
/-- R57: a slot without rungs is refused. -/
theorem test_open_empty_ladder :
    holdsNext (exec (.openSession [0, 1]) State.reset) (fun t => t.response == some ⟨.ladderEmpty, []⟩) = true := by decide

/-- A CONFIGURE payload for session 0 with the mask and the bytes of the record. -/
def configuration (mask : Nat) (record : List Byte) : List Byte := 0 :: (beBytes 3 mask ++ record)

set_option maxRecDepth 4000 in
/-- R52: a weight of 0 is clamped to 1 (field 3). -/
theorem test_configure_clamps :
    holdsNext (exec (.configure (configuration 4 (List.replicate 46 0))) fetching)
      (fun t => (t.session 0).config.weight == 1 && t.response == some ⟨.clamped 1, []⟩) = true := by decide
/-- R54: the ladder slot (field 1) is locked outside OPEN. -/
theorem test_configure_locked :
    holdsNext (exec (.configure (configuration 1 (1 :: List.replicate 45 0))) fetching)
      (fun t => t.response == some ⟨.locked 1, []⟩) = true := by decide
/-- R58: START enters PRIMING. -/
theorem test_start :
    holdsNext (exec (.start [0]) (stateOf (sessionIn .opened [] 0) .free)) (fun t => (t.session 0).state == .priming) = true := by decide
/-- R24: a session alone holds the whole of U. -/
theorem test_start_share :
    holdsNext (exec (.start [0]) (stateOf (sessionIn .opened [] 0) .free)) (fun t => (t.session 0).share == 1703) = true := by decide
theorem test_hold_playout : holdsNext (exec (.holdPlayout [0]) fetching) (fun t => (t.session 0).held) = true := by decide
theorem test_resume_playout_refused_in_open :
    holdsNext (exec (.resumePlayout [0]) (stateOf (sessionIn .opened [] 0) .free))
      (fun t => t.response == some ⟨.wrongState .opened, []⟩) = true := by decide
/-- R64: END keeps the ACTIVE entry and drops the WAITING one. -/
theorem test_end :
    holdsNext (exec (.endSession [0]) (stateOf (sessionIn .running [entry 0 .active (some 1), waiting 1] 2) (.taken 1 ⟨0, 0⟩ 0 1500)))
      (fun t => (t.session 0).state == .draining && (t.session 0).ledger.length == 1 && t.poolFree == 47) = true := by decide
/-- R191: END keeps the held flag, and the first NEXT after it is answered WAIT with reason HELD while an entry remains. -/
theorem test_end_held :
    holdsNext (exec (.endSession [0]) (fetching.setSession 0 { fetching.session 0 with held := true }))
      (fun t => (t.session 0).held && holdsNext (exec (.next 32) t) fun u =>
        (u.session 0).held && (u.session 0).state == .draining && (u.client 0).answer == .wait .held false) = true := by decide
/-- R69, R86: SEEK flushes; the fetch is cancelled without a back-reference. -/
theorem test_seek :
    holdsNext (exec (.seek [0, 0, 0, 0, 9]) fetching)
      (fun t => (t.session 0).nextSegment == 9 && t.slot 0 == .cancelling 1 none (issued 1 800) false && t.cancelList == [1]) = true := by decide
/-- R70: CLOSE unbinds the client. -/
theorem test_close :
    holdsNext (exec (.closeSession [0]) fetching) (fun t => (t.session 0).state == .closed && t.client 0 == Client.initial) = true := by decide
/-- R62: a second reservation is refused. -/
theorem test_set_reservation_reserved :
    holdsNext (exec (.setReservation [0, 1, 2]) (fetching.setSession 0 { fetching.session 0 with reservation := .cap 1 }))
      (fun t => t.response == some ⟨.reserved, []⟩) = true := by decide
theorem test_clear_reservation :
    holdsNext (exec (.clearReservation [0]) (fetching.setSession 0 { fetching.session 0 with reservation := .cap 1 }))
      (fun t => (t.session 0).reservation == .unreserved) = true := by decide
/-- 11.2: READ-SESSION is 94 bytes, the state at offset 0, the bound client at offset 72. -/
theorem test_read_session :
    holdsNext (exec (.readSession [0]) fetching) (fun t => match t.response with
      | some r => r.payload.length == 94 && r.payload.getD 0 9 == 2 && r.payload.getD 72 9 == 0
      | none => false) = true := by decide
/-- R96: position 15 is read, position 16 refused. -/
theorem test_read_ledger :
    (holdsNext (exec (.readLedger [0, 15]) fetching) (fun t => t.response.any fun r => r.payload.length == 19) &&
      holdsNext (exec (.readLedger [0, 16]) fetching) (fun t => t.response == some ⟨.index 0, []⟩)) = true := by decide
/-- R160: bound already, even to the named session. -/
theorem test_bind_bound :
    holdsNext (exec (.bindClient [0, 0]) fetching) (fun t => t.response == some ⟨.clientBound 0, []⟩) = true := by decide
theorem test_unbind : holdsNext (exec (.unbindClient [0]) fetching) (fun t => t.client 0 == Client.initial) = true := by decide
/-- 11.2: READ-CLIENT of an unbound client reads 255 first and the base address last. -/
theorem test_read_client :
    holdsNext (exec (.readClient [5]) fetching)
      (fun t => t.response.any fun r => r.payload.getD 0 0 == 255 && r.payload.getD 13 0 == 32) = true := by decide
/-- R180: the set is returned and emptied, and ATTN released. -/
theorem test_read_notices :
    holdsNext (exec (.readNotices []) { fetching with partNotices := 4, attn := true })
      (fun t => t.response == some ⟨.normal, [0, 0, 0, 0, 0, 0, 4, 0x0F, 0xFF]⟩ && t.partNotices == 0 && !t.attn) = true := by decide
/-- R181: disabling the last enabled kind present releases ATTN. -/
theorem test_set_notice_enable :
    holdsNext (exec (.setNoticeEnable [0, 0x7F]) { fetching with partNotices := 4, attn := true }) (fun t => !t.attn) = true := by decide
/-- R174: a LOAD of one byte is refused with the length 2. -/
theorem test_load_length :
    holdsNext (exec (.load [0]) fetching) (fun t => t.response == some ⟨.length 2, []⟩) = true := by decide
theorem test_unknown_request :
    holdsNext (exec (.unknownRequest 0x19 []) fetching) (fun t => t.response == some ⟨.unknownRequest, []⟩) = true := by decide
theorem test_control_frame_discard :
    holdsNext (exec .controlFrameDiscard { fetching with response := some ⟨.normal, []⟩ }) (fun t => t.response == none) = true := by decide

/-- Session 0 with a QUEUED order for segment 0. -/
def ordered : State := stateOf (sessionIn .priming [entry 0 .queued (some 1)] 1) (.queued 1 ⟨0, 0⟩)

/-- R128: the order's fields; R135: the watchdog armed at 0. -/
theorem test_take :
    holdsNext (exec .take ordered)
      (fun t => t.fetchAnswer == some (.order 1 0 800 0 200000 800) && t.slot 0 == .taken 1 ⟨0, 0⟩ 0 1500) = true := by decide
/-- R128: cancels first. -/
theorem test_take_cancel : holdsNext (exec .take givenUp) (fun t => t.fetchAnswer == some (.cancel 1) && t.cancelList == []) = true := by
  decide
/-- R3: B and the entry's arrived bytes. -/
theorem test_arrival :
    holdsNext (exec (.arrival 1 500) fetching)
      (fun t => t.meter.windowBytes == 500 && (t.session 0).ledger.map (·.arrived) == [500]) = true := by decide
/-- R118: a tag no slot holds, tag 0 included. -/
theorem test_arrival_unknown_tag :
    holdsNext (exec (.arrival 0 500) fetching) (fun t => t.fetchAnswer == some .unknownTag && t.meter.windowBytes == 0) = true := by decide
/-- R81: the entry READY, a reported duration above 60000 is 60000. -/
theorem test_done :
    holdsNext (exec (.done 1 .complete 100 7 65000) fetching)
      (fun t => (t.session 0).ledger.map (·.reported) == [some 60000] && t.slot 0 == .free && t.fetchAnswer == some .kept) = true := by decide
/-- R145, R148: a first FAILED is retried after the retry interval. -/
theorem test_done_failed :
    holdsNext (exec (.done 1 .failed 0 0 0) fetching)
      (fun t => (t.session 0).ledger.map (·.notBefore) == [some 250] && (t.session 0).ledger.map (·.attempts) == [1]
        && t.fetchAnswer == some .cleared) = true := by decide
/-- R10: PAUSE ends the occupancy condition. -/
theorem test_pause : holdsNext (exec .pause fetching) (fun t => t.meter.paused && !t.occupied) = true := by decide
theorem test_resume :
    holdsNext (exec .resume { fetching with meter := { fetching.meter with paused := true } }) (fun t => t.occupied) = true := by decide
set_option maxRecDepth 4000 in
/-- R138: the fetch's slot is FREE, its entry WAITING and due now, the tag counter 1. -/
theorem test_link_reset :
    holdsNext (exec .linkReset { fetching with now := 40 })
      (fun t => t.slot 0 == .free && (t.session 0).ledger.map (·.notBefore) == [some 40] && t.tagCounter == 1) = true := by decide
theorem test_bad_record :
    holdsNext (exec (.badRecord (.unknownCode 0)) fetching) (fun t => t.fetchAnswer == some .badRecord && t.partNotices == 4 && t.attn) = true := by
  decide
theorem test_fetch_record_discard :
    holdsNext (exec .fetchRecordDiscard { fetching with fetchAnswer := some .ack }) (fun t => t.fetchAnswer == none) = true := by decide

/-- Session 0 with two READY segments. -/
def playable (state : SessionState) : State := stateOf (sessionIn state [ready 0, ready 1] 2) .free

/-- R163: the head becomes PLAYING; R85: its remaining time is its duration. -/
theorem test_next_hands :
    holdsNext (exec (.next 32) (playable .running))
      (fun t => (t.session 0).ledger.map (·.state) == [.playing, .ready] && (t.session 0).ledger.map (·.remaining) == [some 2000, none]) = true := by
  decide
/-- A held session in DRAINING, its ledger empty. -/
def emptied : State := stateOf { sessionIn .draining [] 2 with held := true } .free

/-- R163: a PRIMING session answers WAIT; R67, R191: a NEXT that finds the ledger of a held DRAINING one empty completes the drain. -/
theorem test_next_waits :
    (holdsNext (exec (.next 32) (playable .priming)) (fun t => (t.client 0).answer == .wait .priming false)
      && holdsNext (exec (.next 32) emptied) (fun t => (t.client 0).answer == .halt .ended false && !(t.session 0).held))
      = true := by decide
/-- Session 0 playing segment 0. -/
def playing : State :=
  stateOf (sessionIn .running [{ ready 0 with state := .playing, remaining := some 2000 }, ready 1] 2) .free

/-- R169: 500 ms into 2000, with 2000 READY behind it. -/
theorem test_progress :
    holdsNext (exec (.progress 32 500) playing) (fun t => (t.client 0).answer == .noted 1500 3500) = true := by decide
theorem test_malformed :
    holdsNext (exec (.malformedTransfer 32 [3]) playing) (fun t => (t.client 0).answer == .badRequest && t.partNotices == 8) = true := by decide
/-- 11.4: NOTED, then zeros. -/
theorem test_read_transfer :
    holdsNext (exec (.playoutReadTransfer 32 9) (playing.setClient 0 { playing.client 0 with answer := .noted 1500 3500 }))
      (fun t => t.playoutOut == [7, 0x05, 0xDC, 0, 0, 0x0D, 0xAC, 0, 0]) = true := by decide

/-- Session 0 fetching, the window at its length with B bytes. -/
def windowAt (bytes : Nat) : State := { fetching with meter := { fetching.meter with windowBytes := bytes, windowElapsed := 100 } }

/-- 1.10, window 1, and 2.6: 31,250 bytes in 100 ms. -/
theorem test_window_sample :
    holdsNext (exec .windowExpiry (windowAt 31250))
      (fun t => t.meter.fast == 2125 && t.meter.slow == 2031 && t.meter.capacity == 2031 && t.usable == 1729) = true := by decide
/-- 1.10, window 2: 3900 bytes are thin. -/
theorem test_window_thin :
    holdsNext (exec .windowExpiry (windowAt 3900)) (fun t => t.meter.thinWindows == 1 && t.meter.fast == 2000) = true := by decide
/-- R7: the worked truncations toward zero. -/
theorem test_move_toward : moveToward 4 1062 1200 = 1096 ∧ moveToward 16 2037 1200 = 1985 ∧ moveToward 4 64 0 = 64 := by decide

/-- Session 0 fetching, the watchdog at its limit. -/
def stalled : State := fetching.setSlot 0 (.taken 1 ⟨0, 0⟩ 1500 1500)

/-- R9, R136: F halved, the slot CANCELLING with its back-reference. -/
theorem test_stall_watchdog :
    holdsNext (exec (.stallWatchdogExpiry 0) stalled)
      (fun t => t.meter.fast == 1000 && t.slot 0 == .cancelling 1 (some ⟨0, 0⟩) (issued 1 800) false && t.cancelList == [1]) = true := by decide

/-- Two fetches of session 0, both watchdogs at their limits, and no attempts left: the first expiry faults the session. -/
def stalledTwice : State :=
  let x := sessionIn .running [entry 0 .active (some 1), entry 1 .active (some 2)] 2
  (stateOf { x with config := { x.config with pipeline := .pipelined, retryLimit := 0 } } (.taken 1 ⟨0, 0⟩ 1500 1500)).setSlot 1
    (.taken 2 ⟨0, 1⟩ 1500 1500)

/-- R9, R136: two watchdogs due together halve F twice, 2000, 1000, 500, in either order, a fault at the first or not; then none is due. -/
theorem test_stall_watchdogs_together :
    (holdsNext (exec (.stallWatchdogExpiry 0) stalledTwice) (fun t => (t.session 0).state == .faulted && t.meter.fast == 1000
        && holdsNext (exec (.stallWatchdogExpiry 1) t) (fun u => u.meter.fast == 500 && u.meter.halvings == 2 && u.dueEvents == []))
      && holdsNext (exec (.stallWatchdogExpiry 1) stalledTwice) (fun t => t.meter.fast == 1000
        && holdsNext (exec (.stallWatchdogExpiry 0) t) (fun u => (u.session 0).state == .faulted && u.meter.fast == 500 && u.dueEvents == [])))
      = true := by decide
theorem test_not_before_reached : holdsNext (exec (.notBeforeReached 0 0) givenUp) (fun t => t == givenUp) = true := by decide
/-- R120: the tag counter's tag, the counter moved on; R101: PRIMING starts within the start cap. -/
theorem test_grant :
    holdsNext (exec .grant (stateOf (sessionIn .priming [] 0) .free))
      (fun t => t.slot 0 == .queued 2 ⟨0, 0⟩ && t.tagCounter == 3 && (t.session 0).currentRung == some 2) = true := by decide

/-- R172, R187: the turnaround, class, code, detail, length, then 0s; R117: CANCEL and its tag, then 0s; R184: undriven. -/
theorem test_shifted_out :
    { fetching with response := some ⟨.index 3, []⟩ }.controlOut 8 = some [0, 2, 0, 0, 3, 0, 0, 0]
      ∧ { fetching with fetchAnswer := some (.cancel 9) }.fetchOut 4 = some [0x11, 9, 0, 0]
      ∧ (State.heldInReset 56 0 []).controlOut 4 = none := by decide

/-! ### For each statement with hypotheses, a state and operands that meet them -/

theorem witness_StepRunsTheCommandInFront : { State.reset with pending := [.take] }.pending = .take :: [] := by decide

theorem witness_Idle_held : (State.heldInReset 56 0 []).pending = [] ∧ (State.heldInReset 56 0 []).inReset = true := by decide
theorem windowAt_watchdog : (windowAt 0).slot 0 = .taken 1 ⟨0, 0⟩ 0 1500 ∧ ∀ j : SlotId, j ≠ 0 → (windowAt 0).slot j = .free := by decide
theorem windowAt_idle : ∀ i : SessionId, ¬(windowAt 0).Candidate i := by unfold State.Candidate; decide
/-- The window at its length, no watchdog at its limit and no candidate. -/
theorem witness_Idle_one :
    ((windowAt 0).pending = [] ∧ (windowAt 0).inReset = false) ∧ (windowAt 0).OwnEventDue .windowExpiry ∧
      ∀ e, (windowAt 0).OwnEventDue e → e = .windowExpiry := by
  refine ⟨by decide, ⟨by decide, by decide⟩, fun e due => ?_⟩
  cases e with
  | windowExpiry => rfl
  | grant => exact absurd due.2.choose_spec (windowAt_idle _)
  | stallWatchdogExpiry j =>
    by_cases h : j = 0
    · subst h
      obtain ⟨-, ⟨_, _, _, _, at0, reached⟩ | ⟨_, _, _, at0⟩⟩ := due <;> rw [windowAt_watchdog.1] at at0 <;> cases at0
      exact absurd reached (by decide)
    · obtain ⟨-, ⟨_, _, _, _, at0, -⟩ | ⟨_, _, _, at0⟩⟩ := due <;> rw [windowAt_watchdog.2 j h] at at0 <;> cases at0
  | _ => exact due.elim
/-- Session 0 fetching, the window at its length and the watchdog at its limit. -/
def bothDue : State := (windowAt 0).setSlot 0 (.taken 1 ⟨0, 0⟩ 1500 1500)
theorem witness_Idle_two :
    (bothDue.pending = [] ∧ bothDue.inReset = false) ∧ bothDue.OwnEventDue .windowExpiry ∧ bothDue.OwnEventDue (.stallWatchdogExpiry 0) :=
  ⟨by decide, ⟨by decide, by decide⟩, by decide, .inl ⟨1, ⟨0, 0⟩, 1500, 1500, by decide, by decide⟩⟩
theorem reset_free : ∀ j : SlotId, State.reset.slot j = .free := by decide
theorem reset_idle : ∀ i : SessionId, ¬State.reset.Candidate i := by unfold State.Candidate; decide
theorem witness_Idle_none : (State.reset.pending = [] ∧ State.reset.inReset = false) ∧ ∀ e, ¬State.reset.OwnEventDue e := by
  refine ⟨by decide, fun e due => ?_⟩
  cases e with
  | windowExpiry => exact absurd due.1 (by decide)
  | grant => exact absurd due.2.choose_spec (reset_idle _)
  | stallWatchdogExpiry j =>
    obtain ⟨-, ⟨_, _, _, _, at0, -⟩ | ⟨_, _, _, at0⟩⟩ := due <;> rw [reset_free j] at at0 <;> cases at0
  | _ => exact due.elim

theorem witness_EveryCommandAnswersANextState : (Instr.malformedTransfer 32 [2, 0]).wf = true := by decide
theorem witness_refused_requests : (1 ≤ (1 : Byte).toNat ∧ (1 : Byte).toNat ≤ 0x18) ∧ (1 ≤ (0x18 : Byte).toNat ∧ (0x18 : Byte).toNat ≤ 0x18) := by
  decide
theorem witness_refused_records : (1 ≤ (6 : Byte).toNat ∧ (6 : Byte).toNat ≤ 6) ∧ (1 ≤ (5 : Byte).toNat ∧ (5 : Byte).toNat ≤ 5) := by decide

theorem witness_PortBytes_control :
    (Instr.openSession [3, 1]).wf = true ∧ encodeControlFrame (.openSession [3, 1]) = some [0x07, 0x02, 0x03, 0x01] := by decide
theorem witness_PortBytes_fetch :
    (Instr.arrival 5 0x1234).wf = true ∧ encodeFetchRecord (.arrival 5 0x1234) = some [0x02, 5, 0x12, 0x34] := by decide
theorem witness_PortBytes_playout :
    (Instr.progress 33 500).wf = true ∧ encodePlayoutWrite (.progress 33 500) = some (33, [0x02, 0x01, 0xF4]) := by decide
/-- The decoding clauses: `test_bytes_open`, `test_bytes_arrival` and `test_bytes_progress` meet them. -/
theorem witness_PortBytes_decode : decodeControlFrame [0x07, 0x02, 0x03, 0x01] = some (.openSession [3, 1]) := by decide

theorem witness_reset_not_held : State.reset.inReset = false := by decide

theorem witness_NothingIsTaken :
    (State.heldInReset 56 0 []).inReset = true ∧ Instr.take.wf = true ∧ Instr.take ≠ .resetNFalls ∧ (∀ straps, Instr.take ≠ .powerOn straps)
      ∧ Instr.take ≠ .controlFrameDiscard ∧ Instr.take ≠ .fetchRecordDiscard :=
  ⟨by decide, by decide, by decide, fun _ h => Instr.noConfusion h, by decide, by decide⟩
theorem witness_NothingIsTaken_step : (State.heldInReset 56 0 [.take]).ResetSound ∧ ∃ t, step (State.heldInReset 56 0 [.take]) = .next t :=
  ⟨by decide, _, rfl⟩

theorem witness_SetLink : State.reset.inReset = false ∧ (linkPayload 10 218 0).length = 20 := by decide
/-- Both sides of the recompute clause: the safety factor and headroom kept, and changed. -/
theorem witness_SetLink_clauses :
    (holdsNext (exec (.setLink (linkPayload 10 218 0)) State.reset) (fun t => t.params.safety == 218 && t.params.headroom == 0) &&
      holdsNext (exec (.setLink (linkPayload 10 217 0)) State.reset) (fun t => t.params.safety != 218)) = true := by decide

/-- A BACKGROUND session started, the link at its least. -/
def squeezed : State :=
  let s := fetching.setSession 0 { fetching.session 0 with config := { SessionConfig.default with sessionClass := .background } }
  { s with meter := { s.meter with fast := 64, capacity := 64 } }
/-- The same session parked, the link restored. -/
def eased : State :=
  let s := squeezed.setSession 0 { squeezed.session 0 with parked := true }
  { s with parkingInForce := true, meter := fetching.meter }
theorem witness_Recompute_parks : squeezed.recompute.parkingInForce = true ∧ squeezed.parkingInForce = false := by decide
theorem witness_Recompute_unparks : eased.recompute.parkingInForce = false ∧ eased.parkingInForce = true := by decide

theorem witness_ThinWindowExpires :
    (windowAt 4095).inReset = false ∧ (windowAt 4095).occupied = true ∧ (windowAt 4095).meter.windowLength ≤ (windowAt 4095).meter.windowElapsed
      ∧ (windowAt 4095).meter.windowBytes < (windowAt 4095).params.thinThreshold := by decide
theorem witness_WindowYieldsASample :
    (windowAt 4096).inReset = false ∧ (windowAt 4096).occupied = true ∧ (windowAt 4096).meter.windowLength ≤ (windowAt 4096).meter.windowElapsed
      ∧ (windowAt 4096).params.thinThreshold ≤ (windowAt 4096).meter.windowBytes := by decide
theorem witness_WindowYieldsASample_early :
    fetching.inReset = false ∧ ¬(fetching.occupied = true ∧ fetching.meter.windowLength ≤ fetching.meter.windowElapsed) := by decide

theorem witness_Load : staged.inReset = false ∧ staged.StagingSound := by decide
theorem witness_Load_bounds :
    (1 < (2 : Byte).toNat ∧ 127 < (128 : Byte).toNat) ∧ (1 : Byte).toNat ≤ 1 ∧ (127 : Byte).toNat ≤ 127
      ∧ (List.replicate 248 (0 : Byte)).length ≤ 248 :=
  ⟨by decide, by decide, by decide, Nat.le_of_eq List.length_replicate⟩

theorem witness_Commit :
    staged.inReset = false ∧ (∀ k, rungFaultAt ((List.range 2).map staged.stagingA.rungAt) k = false) :=
  ⟨by decide, fun k => match k with
    | 0 => by decide
    | 1 => by decide
    | _ + 2 => rfl⟩
theorem witness_Commit_faulty :
    rungFaultAt ((List.range 3).map staged.stagingA.rungAt) 2 = true
      ∧ ∀ j < 2, rungFaultAt ((List.range 3).map staged.stagingA.rungAt) j = false := by decide

/-- A PATCH of a rung of slot 0: the mask and a bitrate. -/
def patchOf (slot rung mask bitrate : Nat) : List Byte :=
  beBytes 1 slot ++ beBytes 1 rung ++ beBytes 1 mask ++ beBytes 4 bitrate ++ List.replicate 6 0
theorem witness_Patch_slot : fetching.inReset = false ∧ (patchOf 8 0 1 500).length = 13 ∧ 7 < byteAt (patchOf 8 0 1 500) 0 := by decide
theorem witness_Patch_rung : (patchOf 0 4 1 500).length = 13 ∧ (fetching.ladder 0).rungs.length ≤ byteAt (patchOf 0 4 1 500) 1 := by decide
theorem witness_Patch_good :
    (fetching.ladder 0).rungs[3]? = some (rung 3000)
      ∧ ∀ k, rungFaultAt ((fetching.ladder 0).rungs.set 3 { rung 3000 with bitrate := 3500 }) k = false :=
  ⟨by decide, fun k => match k with
    | 0 => by decide
    | 1 => by decide
    | 2 => by decide
    | 3 => by decide
    | _ + 4 => rfl⟩
theorem witness_Patch_faulty :
    rungFaultAt ((fetching.ladder 0).rungs.set 3 { rung 3000 with bitrate := 1600 }) 3 = true
      ∧ ∀ j < 3, rungFaultAt ((fetching.ladder 0).rungs.set 3 { rung 3000 with bitrate := 1600 }) j = false := by decide

theorem witness_ReadLadder : fetching.inReset = false ∧ fetching.LaddersValid ∧ (7 : LadderId).val = (7 : Byte).toNat := by decide
theorem witness_ReadLadder_others :
    (0x10 : Byte).toNat = 0x10 ∧ (0x11 : Byte).toNat = 0x11 ∧ 7 < (8 : Byte).toNat ∧ (8 : Byte).toNat ≠ 0x10 ∧ (8 : Byte).toNat ≠ 0x11 := by decide

theorem witness_Requests_above_five : 5 < (6 : Byte).toNat ∧ (beBytes 4 0).length = 4 ∧ (List.replicate 49 (0 : Byte)).length = 49 := by decide
/-- A START outside OPEN, an OPEN outside CLOSED, and an END in OPEN. -/
theorem witness_Requests_states :
    (fetching.session 0).state ∉ [SessionState.opened] ∧ (fetching.session 0).state ∉ [SessionState.closed]
      ∧ (stateOf (sessionIn .opened [] 0) .free).session 0 = sessionIn .opened [] 0
      ∧ SessionState.opened ∉ [SessionState.priming, .running, .starved, .faulted] := by decide
/-- The lowest slot byte that names no ladder slot and the highest that names one; the highest byte that names a client. -/
theorem witness_Requests_bytes : 7 < (8 : Byte).toNat ∧ (7 : Byte).toNat ≤ 7 ∧ (5 : Byte).toNat ≤ 5 := by decide
theorem witness_Requests_frames :
    ((0 : Byte).toNat < 1 ∧ 0x18 < (0x19 : Byte).toNat) ∧ ([0] : List Byte).length < 2 ∧ 250 < (List.replicate 251 (0 : Byte)).length :=
  ⟨by decide, by decide, by rw [List.length_replicate]; decide⟩

theorem witness_Open : State.reset.inReset = false ∧ (State.reset.session 0).state = .closed ∧ 7 < (8 : Byte).toNat := by decide
theorem witness_Open_clauses :
    (State.reset.ladder 7).rungs = [] ∧ ((State.reset.setLadder 7 ladder4).session 0).state = .closed
      ∧ ((State.reset.setLadder 7 ladder4).ladder 7).rungs ≠ [] := by decide

/-- A CONFIGURE that names the last segment and gives it the value 5. -/
def lastFive : List Byte := configuration (2 ^ 18) (List.replicate 41 0 ++ [1] ++ beBytes 4 5)
theorem witness_Configure :
    fetching.inReset = false ∧ (lastFive.tail).length = 49 ∧ (fetching.session 0).state ≠ .closed
      ∧ (fetching.session 0).config.ConfiguredBy lastFive { SessionConfig.default with lastSegment := some 5 } :=
  ⟨by decide, by decide, by decide, by unfold SessionConfig.ConfiguredBy; decide⟩
theorem witness_Configure_order :
    let c := { SessionConfig.default with lastSegment := some 5 }
    (c.panicLevel < c.steadyLevel ∧ c.steadyLevel < c.fullLevel ∧ c.startLevel ≤ c.fullLevel ∧ c.restartLevel ≤ c.fullLevel
      ∧ c.hysteresis < c.fullLevel) ∧ ∀ l ∈ c.lastSegment, c.firstSegment ≤ l ∧ ((fetching.session 0).state.started = true → (fetching.session 0).nextSegment ≤ l) := by
  decide
/-- The last check of a refusal: a last segment that the next segment number has passed. -/
theorem witness_Configure_refused :
    let c := { SessionConfig.default with lastSegment := some 0 }
    (fetching.session 0).config.ConfiguredBy (configuration (2 ^ 18) (List.replicate 41 0 ++ [1] ++ beBytes 4 0)) c
      ∧ ∀ l ∈ c.lastSegment, l < c.firstSegment ∨ ((fetching.session 0).state.started = true ∧ l < (fetching.session 0).nextSegment) :=
  ⟨by unfold SessionConfig.ConfiguredBy; decide, by decide⟩

theorem witness_Start :
    (stateOf (sessionIn .opened [] 0) .free).inReset = false ∧ ((stateOf (sessionIn .opened [] 0) .free).session 0).state = .opened := by decide
theorem witness_Held : fetching.inReset = false ∧ (fetching.session 0).state ≠ .closed ∧ (fetching.session 0).state ≠ .opened := by decide

theorem witness_fetching_sound : fetching.LedgersSound ∧ fetching.TagsSound ∧ fetching.FetchesAgree := by decide
theorem witness_fetching_taint : fetching.TaintFollows ∧ fetching.BindingsSound ∧ fetching.NoneWaitingWhileWinding := by decide
/-- `EndDrainsTheSession`, with `witness_fetching_sound` and `witness_fetching_taint`. -/
theorem witness_End :
    fetching.inReset = false ∧ (fetching.session 0).state ∈ [SessionState.priming, .running, .starved, .faulted] := by decide
/-- `SeekStartsAgain`: the boundary is a last segment equal to the number sought. -/
theorem witness_Seek :
    let s := fetching.setSession 0 { fetching.session 0 with config := { SessionConfig.default with lastSegment := some 9 } }
    s.inReset = false ∧ (s.session 0).state ≠ .closed ∧ (s.session 0).state ≠ .opened ∧ (∀ l ∈ (s.session 0).config.lastSegment, 9 ≤ l) := by decide
theorem witness_Seek_sound :
    let s := fetching.setSession 0 { fetching.session 0 with config := { SessionConfig.default with lastSegment := some 9 } }
    (s.LedgersSound ∧ s.TagsSound ∧ s.FetchesAgree) ∧ s.BindingsSound ∧ ∃ l ∈ (s.session 0).config.lastSegment, l < 10 :=
  ⟨by decide, by decide, by decide⟩
theorem witness_Seek_open :
    let s := stateOf (sessionIn .opened [] 0) .free
    s.inReset = false ∧ (s.session 0).state = .opened ∧ ∀ l ∈ (s.session 0).config.lastSegment, 4294967295 ≤ l := by decide
/-- `CloseClosesTheSession`, with `witness_fetching_sound` and `witness_fetching_taint`. -/
theorem witness_Close : fetching.inReset = false ∧ (fetching.session 0).state ≠ .closed := by decide
/-- A READ-LEDGER position on each side of the bound, and an entry returned. -/
theorem witness_ReadLedger :
    15 < (16 : Byte).toNat ∧ ¬15 < (15 : Byte).toNat ∧ (((fetching.session 0).ledger.drop 0).take 4)[0]? = some (entry 0 .active (some 1)) := by
  decide

/-- BIND: client 1 to session 0, which client 0 holds; to session 1 in OPEN, which nobody holds. -/
theorem witness_Bind :
    (fetching.client 1).binding = none ∧ (fetching.client 0).binding = some 0 ∧ (∀ e : ClientId, e < 0 → (fetching.client e).binding ≠ some 0) := by
  decide
theorem witness_Bind_free :
    let s := fetching.setSession 1 (sessionIn .opened [] 0)
    s.inReset = false ∧ (s.session 1).state ≠ .closed ∧ ∀ d : ClientId, (s.client d).binding ≠ some 1 := by decide
/-- UNBIND with a PLAYING entry to release, and of an unbound client. -/
theorem witness_Unbind : playing.inReset = false ∧ (playing.client 0).binding = some 0 ∧ (playing.client 1).binding = none := by decide
theorem witness_Unbind_sound : playing.LedgersSound ∧ playing.TagsSound ∧ playing.FetchesAgree ∧ playing.TaintFollows := by decide

theorem witness_Answers : fetching.inReset = false ∧ { fetching with response := some ⟨.normal, []⟩, fetchAnswer := some .ack }.response = some ⟨.normal, []⟩
    ∧ { fetching with response := some ⟨.normal, []⟩, fetchAnswer := some .ack }.fetchAnswer = some .ack := by decide
theorem witness_Take_cancel : givenUp.inReset = false ∧ givenUp.cancelList = [1] := by decide
theorem witness_Take_nothing : fetching.cancelList = [] ∧ fetching.orderQueue = [] := by decide
theorem witness_Take_order :
    ordered.cancelList = [] ∧ ordered.orderQueue = [0] ∧ ordered.slot 0 = .queued 1 ⟨0, 0⟩
      ∧ ordered.entry? ⟨0, 0⟩ = some (entry 0 .queued (some 1)) := by decide

theorem witness_Arrival_cancelling :
    givenUp.slot 0 = .cancelling (1 : Byte).toNat (some ⟨0, 0⟩) (issued 1 800) false ∧ givenUp.TagsSound ∧ givenUp.LedgersSound := by decide
theorem witness_Arrival_taken :
    fetching.slot 0 = .taken (1 : Byte).toNat ⟨0, 0⟩ 0 1500 ∧ fetching.entry? ⟨0, 0⟩ = some (entry 0 .active (some 1))
      ∧ ¬fetching.AbandonmentDue 0 (entry 0 .active (some 1)) 500 :=
  ⟨by decide, by decide, by unfold State.AbandonmentDue; decide⟩
/-- A RUNNING session in zone PANIC, its only fetch above rung 0: abandoned at the first ARRIVAL. -/
def panicking : State := stateOf (sessionIn .running [entry 0 .active (some 1)] 1) (.taken 1 ⟨0, 0⟩ 0 1500)
theorem witness_Arrival_abandons :
    panicking.slot 0 = .taken (1 : Byte).toNat ⟨0, 0⟩ 0 1500 ∧ panicking.entry? ⟨0, 0⟩ = some (entry 0 .active (some 1))
      ∧ (panicking.TagsSound ∧ panicking.LedgersSound) ∧ panicking.AbandonmentDue 0 (entry 0 .active (some 1)) 0 :=
  ⟨by decide, by decide, by decide, by unfold State.AbandonmentDue; decide⟩

/-- `DoneBringsTheSegment` and `DoneWithoutTheSegmentTakesAnOutcome`, with `witness_fetching_sound`. -/
theorem witness_Done :
    fetching.inReset = false ∧ fetching.slot 0 = .taken (1 : Byte).toNat ⟨0, 0⟩ 0 1500
      ∧ fetching.entry? ⟨0, 0⟩ = some (entry 0 .active (some 1)) := by decide
/-- Both sides of `stays`: the only fetch, and a paused link. -/
theorem witness_Done_stays :
    (¬∃ k : SlotId, k ≠ 0 ∧ (fetching.slot k).occupying = true)
      ∧ { fetching with meter := { fetching.meter with paused := true } }.meter.paused = true := by decide
/-- `OutcomesTakeEffect` in a session that goes on and in one that winds down. -/
theorem witness_Outcomes : fetching.NoneWaitingWhileWinding ∧ (∀ j : SlotId, fetching.slotAgrees (fetching.slot j) = true) ∧ fetching.entry? ⟨0, 0⟩ = some (entry 0 .active (some 1)) := by decide
/-- A DRAINING session whose last fetch is under way. -/
def draining : State := stateOf (sessionIn .draining [entry 0 .active (some 1)] 1) (.taken 1 ⟨0, 0⟩ 0 1500)
theorem witness_Outcomes_winding :
    (draining.LedgersSound ∧ draining.TagsSound ∧ draining.NoneWaitingWhileWinding ∧ ∀ j : SlotId, draining.slotAgrees (draining.slot j) = true)
      ∧ draining.entry? ⟨0, 0⟩ = some (entry 0 .active (some 1)) := by decide

/-- The same when its fetch has ended: no slot serves the entry, as at every outcome. -/
theorem witness_Outcomes_unserved :
    let s := draining.endFetch 0
    (s.LedgersSound ∧ s.TagsSound ∧ s.NoneWaitingWhileWinding ∧ ∀ j : SlotId, s.slotAgrees (s.slot j) = true)
      ∧ s.entry? ⟨0, 0⟩ = some (entry 0 .active (some 1)) ∧ ∀ j : SlotId, (s.slot j).serves 0 (entry 0 .active (some 1)) = false := by decide

theorem witness_DoneCancelled :
    givenUp.inReset = false ∧ (givenUp.TagsSound ∧ givenUp.LedgersSound ∧ givenUp.FetchesAgree)
      ∧ givenUp.slot 0 = .cancelling (1 : Byte).toNat (some ⟨0, 0⟩) (issued 1 800) false := by decide
/-- The entry the back-reference names waits, so that a COMPLETE is adopted and a FAILED is not. -/
theorem witness_DoneCancelled_adopts :
    givenUp.entry? ⟨0, 0⟩ = some (waiting 0) ∧ (waiting 0).state = .waiting
      ∧ ¬(DoneResult.failed = .complete ∨ DoneResult.failed = .truncated) := by decide

/-- `LinkResetFreesEveryFetch` on a session that goes on (with `witness_fetching_sound`, `witness_fetching_taint`) and on one that winds
down. -/
theorem witness_LinkReset : (fetching.session 0).state.winding = false ∧ (draining.session 0).state.winding = true := by decide
theorem witness_LinkReset_winding : draining.TagsSound ∧ draining.FetchesAgree ∧ draining.TaintFollows := by decide

theorem witness_Records_codes :
    ((0 : Byte).toNat < 1 ∧ 6 < (7 : Byte).toNat) ∧ ((0 : Byte).toNat < 1 ∧ 5 < (6 : Byte).toNat) := by decide
theorem witness_Records_tags :
    (∀ j : SlotId, (ordered.slot j).tag? ≠ some (0 : Byte).toNat) ∧ ordered.TagsSound
      ∧ ordered.slot 0 = .queued (1 : Byte).toNat ⟨0, 0⟩ := by decide

theorem witness_NextHands :
    let u := (playable .running).releasePlaying 0
    ((32 : PlayoutAddress).toNat = (playable .running).baseAddress + (0 : ClientId).val ∧ (playable .running).LedgersSound
      ∧ ((playable .running).client 0).binding = some 0) ∧ (u.session 0).ledger = [ready 0, ready 1] ∧ (ready 0).state = .ready
      ∧ (u.session 0).held = false ∧ (u.session 0).state = .running := by decide
theorem witness_NextWaits : (32 : PlayoutAddress).toNat = State.reset.baseAddress + (0 : ClientId).val ∧ (State.reset.client 0).binding = none := by
  decide
theorem witness_NextWaits_held : (emptied.client 0).binding = some 0 ∧ (emptied.session 0).state = .draining ∧ (emptied.session 0).held = true
    ∧ (emptied.session 0).ledger = [] := by decide
theorem witness_NextWaits_bound : ((playable .priming).client 0).binding = some 0 ∧ ((playable .priming).session 0).state ≠ .closed := by decide

theorem witness_Progress : playing.inReset = false ∧ playing.LedgersSound ∧ (32 : PlayoutAddress).toNat = playing.baseAddress + (0 : ClientId).val := by
  decide
theorem witness_Progress_clauses :
    (playing.client 0).binding = some 0
      ∧ (playing.session 0).ledger = { ready 0 with state := .playing, remaining := some 2000 } :: [ready 1]
      ∧ (∀ e ∈ ((playable .running).session 0).ledger, e.state ≠ .playing) ∧ (playing.client 1).binding = none := by decide

/-- The lowest and the highest of the six addresses, and one on each side of them. -/
theorem witness_Read_addresses :
    (32 : PlayoutAddress).toNat = State.reset.baseAddress + (0 : ClientId).val ∧ (37 : PlayoutAddress).toNat = State.reset.baseAddress + (5 : ClientId).val
      ∧ (∀ c : ClientId, (31 : PlayoutAddress).toNat ≠ State.reset.baseAddress + c.val)
      ∧ ∀ c : ClientId, (38 : PlayoutAddress).toNat ≠ State.reset.baseAddress + c.val := by decide
theorem witness_Malformed :
    ((1 : Byte) = 1 → ([0] : List Byte) ≠ []) ∧ ((2 : Byte) = 2 → ([0] : List Byte).length ≠ 2) := by decide
/-- The same two to an address that is not one of the six, and an unknown code with three bytes after it. -/
theorem witness_Malformed_elsewhere :
    (∀ c : ClientId, (38 : PlayoutAddress).toNat ≠ State.reset.baseAddress + c.val)
      ∧ ((3 : Byte) = 1 → ([0, 0, 0] : List Byte) ≠ []) ∧ ((3 : Byte) = 2 → ([0, 0, 0] : List Byte).length ≠ 2) := by decide

theorem witness_Selection : ladder4.Valid ∧ ladder4.rungs ≠ [] := by decide
/-- The lowest enabled rung above the current rung 1 of `ladder4` is rung 2. -/
theorem witness_Selection_climb : ladder4.IsLowestAbove 1 2 := ⟨by decide, by decide, fun _ _ _ _ => by omega⟩
/-- RUNNING with a current rung, its buffer exactly at the panic level: neither the floor of zone PANIC nor the start applies. -/
theorem witness_Selection_running :
    (sessionIn .running [ready 0] 1).state = .running ∧ (sessionIn .running [ready 0] 1).currentRung = some 1
      ∧ ¬bufferedMs (sessionIn .running [ready 0] 1).ledger < (sessionIn .running [ready 0] 1).config.panicLevel := by decide
/-- Below the panic level, and the other states; a pin and a cap. -/
theorem witness_Selection_others :
    bufferedMs (sessionIn .running [] 1).ledger < (sessionIn .running [] 1).config.panicLevel
      ∧ ((sessionIn .priming [] 0).state = .priming ∧ (sessionIn .starved [] 0).state = .starved)
      ∧ { sessionIn .running [] 1 with reservation := .pin 3 }.reservation = .pin 3
      ∧ { sessionIn .running [] 1 with reservation := .cap 0 }.reservation = .cap 0 := by decide
theorem witness_Lookup :
    ladder4.rungs[1]? = some (rung 800) ∧ (rung 800).enabled = true ∧ (rung 800).bitrate = (entry 0 .waiting none).issue.bitrate := by decide

/-- A PRIMING session with nothing in its ledger. -/
def idle : State := stateOf (sessionIn .priming [] 0) .free
theorem idle_chosen : idle.Chosen 0 := by unfold State.Chosen State.Candidate Session.UrgentNow; decide
theorem witness_GrantNew :
    idle.inReset = false ∧ idle.slot 0 = .free ∧ (∀ k : SlotId, k < 0 → idle.slot k ≠ .free) ∧ idle.Chosen 0
      ∧ ∀ e ∈ (idle.session 0).ledger, ¬e.DueAt idle.now :=
  ⟨by decide, by decide, by decide, idle_chosen, by decide⟩
theorem witness_GrantNew_sound : (idle.TagsSound ∧ idle.LedgersSound ∧ idle.FetchesAgree) ∧ idle.LaddersValid ∧ idle.RungsWithinLadder :=
  ⟨by decide, by decide, by decide⟩
/-- A last segment that the grant reaches. -/
def final : State := idle.setSession 0 { idle.session 0 with config := { SessionConfig.default with lastSegment := some 0 } }
theorem witness_GrantNew_final :
    final.Chosen 0 ∧ (final.session 0).config.lastSegment = some (final.session 0).nextSegment ∧ final.slot 0 = .free :=
  ⟨by unfold State.Chosen State.Candidate Session.UrgentNow; decide, by decide, by decide⟩
/-- A PRIMING session with an entry due now. -/
def due : State := stateOf (sessionIn .priming [waiting 0] 1) .free
theorem witness_GrantAgain :
    due.Chosen 0 ∧ due.slot 0 = .free ∧ (due.session 0).ledger = [] ++ waiting 0 :: [] ∧ (waiting 0).DueAt due.now :=
  ⟨by unfold State.Chosen State.Candidate Session.UrgentNow; decide, by decide, by decide, by decide⟩
theorem witness_GrantAgain_sound : due.TagsSound ∧ due.LedgersSound ∧ due.LaddersValid ∧ due.RungsWithinLadder :=
  ⟨by decide, by decide, by decide, by decide⟩

theorem witness_Stall :
    stalled.inReset = false ∧ stalled.slot 0 = .taken 1 ⟨0, 0⟩ 1500 1500 ∧ 1500 ≤ 1500 ∧ stalled.meter.paused = false
      ∧ stalled.entry? ⟨0, 0⟩ = some (entry 0 .active (some 1)) := by decide
theorem witness_Stall_sound :
    (stalled.LedgersSound ∧ stalled.TagsSound ∧ stalled.FetchesAgree ∧ stalled.TaintFollows) ∧ (stalled.session 0).state.started = true
      ∧ (entry 0 .active (some 1)).attempts + 1 ≤ (stalled.session 0).config.retryLimit := by decide
/-- No attempts left. -/
theorem witness_Stall_spent :
    let s := stalled.setSession 0 { stalled.session 0 with config := { SessionConfig.default with retryLimit := 0 } }
    (s.LedgersSound ∧ s.TagsSound ∧ s.FetchesAgree ∧ s.TaintFollows) ∧ (s.session 0).config.retryLimit < (entry 0 .active (some 1)).attempts + 1 := by decide
/-- A session that winds down, with attempts left. -/
theorem witness_Stall_winding :
    let s := draining.setSlot 0 (.taken 1 ⟨0, 0⟩ 1500 1500)
    (s.LedgersSound ∧ s.TagsSound ∧ s.FetchesAgree ∧ s.TaintFollows ∧ s.NoneWaitingWhileWinding) ∧ (s.session 0).state.winding = true
      ∧ (entry 0 .active (some 1)).attempts + 1 ≤ (s.session 0).config.retryLimit := by decide
/-- An expiry that is owed, and the same one while the link is paused. -/
theorem witness_Stall_owed :
    let s := fetching.setSlot 0 (.cancelling 1 none (issued 1 800) true)
    s.inReset = false ∧ s.slot 0 = .cancelling 1 none (issued 1 800) true ∧ s.meter.paused = false
      ∧ { s with meter := { s.meter with paused := true } }.meter.paused = true := by decide
/-- A second slot due with the one that faults. -/
theorem witness_Stall_together :
    (stalledTwice.LedgersSound ∧ stalledTwice.TagsSound ∧ stalledTwice.FetchesAgree ∧ stalledTwice.TaintFollows) ∧ stalledTwice.slot 1 = .taken 2 ⟨0, 1⟩ 1500 1500 := by
  decide
/-- One millisecond short of the limit. -/
theorem witness_Stall_early :
    ∀ tag r elapsed limit, (fetching.setSlot 0 (.taken 1 ⟨0, 0⟩ 1499 1500)).slot 0 = .taken tag r elapsed limit →
      fetching.meter.paused = true ∨ elapsed < limit := by
  intro tag r elapsed limit h
  have h' : Slot.taken 1 ⟨0, 0⟩ 1499 1500 = .taken tag r elapsed limit := h
  injection h' with _ _ he hl
  omega

theorem witness_NotBefore :
    due.inReset = false ∧ waiting 0 ∈ (due.session 0).ledger ∧ ((waiting 0).segment = (0 : BitVec 32).toNat ∧ (waiting 0).state = .waiting)
      ∧ (∃ d ∈ (waiting 0).notBefore, d ≤ due.now) ∧ (due.session 0).state.started = true := by decide
theorem witness_NotBefore_room :
    (due.session 0).parked = false
      ∧ ((due.session 0).ledger.filter fun e => e.state == .queued || e.state == .active).length < (due.session 0).config.pipeline.depth := by
  decide
theorem witness_Grant_idle : ∀ i : SessionId, ¬State.reset.Candidate i := reset_idle

/-- The invariants hold of a state with a fetch under way, and a step from it answers a next state. -/
def fetchingDone : State := { fetching with pending := [.done 1 .complete 100 7 0] }
theorem witness_step : ∃ t, step fetchingDone = .next t := ⟨_, rfl⟩
theorem witness_step_link : fetchingDone.LinkInRange ∧ fetchingDone.BudgetCurrent ∧ fetchingDone.ParkingConsistent ∧ fetchingDone.NoParkingDue := by decide
theorem witness_step_ladders : fetchingDone.LaddersValid ∧ fetchingDone.StagingSound ∧ fetchingDone.RungsWithinLadder := by decide
theorem witness_step_sessions : fetchingDone.SessionsInRange ∧ fetchingDone.OpenUnheld ∧ fetchingDone.PoolConserved := by decide
theorem witness_step_ledgers : fetchingDone.LedgersSound ∧ fetchingDone.NoneWaitingWhileWinding ∧ fetchingDone.TaintFollows := by decide
theorem witness_step_fetches : fetchingDone.TagsSound ∧ fetchingDone.FetchesAgree := by decide
theorem witness_step_playout : fetchingDone.BindingsSound ∧ fetchingDone.AttnJudged := by decide

end Sys2Proof.Tests
end

