-- ==== Sys2Proof/Proofs/LinkFrame.lean ====
section
/-! PROOFS. The Link Meter's frame: the operations that leave the link parameters and the Link Meter alone. -/

namespace Sys2Proof.Machine

/-- The link parameters and the Link Meter, what chapter 1 owns. -/
def State.link (s : State) : LinkParams × Meter := (s.params, s.meter)

theorem State.link_eq_iff {s t : State} : t.link = s.link ↔ t.params = s.params ∧ t.meter = s.meter := by
  simp [State.link]

theorem State.LinkInRange.of_link {s t : State} (range : s.LinkInRange) (same : t.link = s.link) : t.LinkInRange := by
  obtain ⟨params, meter⟩ := State.link_eq_iff.mp same
  unfold State.LinkInRange
  rw [params, meter]
  exact range

/-! ### The numbered updates -/

@[simp] theorem State.setSession_link (s : State) (i : SessionId) (x : Session) : (s.setSession i x).link = s.link := rfl
@[simp] theorem State.modifySession_link (s : State) (i : SessionId) (f : Session → Session) :
    (s.modifySession i f).link = s.link := rfl
@[simp] theorem State.setSlot_link (s : State) (j : SlotId) (x : Slot) : (s.setSlot j x).link = s.link := rfl
@[simp] theorem State.freeSlotAt_link (s : State) (j : SlotId) : (s.freeSlotAt j).link = s.link := rfl
@[simp] theorem State.setClient_link (s : State) (c : ClientId) (x : Client) : (s.setClient c x).link = s.link := rfl
@[simp] theorem State.setLadder_link (s : State) (l : LadderId) (x : Ladder) : (s.setLadder l x).link = s.link := rfl
@[simp] theorem State.updateEntry_link (s : State) (r : EntryRef) (f : Entry → Entry) : (s.updateEntry r f).link = s.link := rfl
@[simp] theorem State.notify_link (s : State) (i : SessionId) (k : SessionKind) : (s.notify i k).link = s.link := rfl
@[simp] theorem State.notifyPart_link (s : State) (k : PartKind) : (s.notifyPart k).link = s.link := rfl
@[simp] theorem State.respond_link (s : State) (status : Status) : (s.respond status).link = s.link := rfl
@[simp] theorem State.respondWith_link (s : State) (payload : List Byte) : (s.respondWith payload).link = s.link := rfl
@[simp] theorem State.wrongState_link (s : State) (i : SessionId) : (s.wrongState i).link = s.link := rfl
@[simp] theorem State.answerFetch_link (s : State) (a : FetchAnswer) : (s.answerFetch a).link = s.link := rfl
@[simp] theorem State.answerClient_link (s : State) (c : ClientId) (a : PlayoutAnswer) : (s.answerClient c a).link = s.link := rfl
@[simp] theorem State.protocolError_link (s : State) (a : FetchAnswer) : (s.protocolError a).link = s.link := rfl

theorem State.budgetFrom_link (s t : State) : (s.budgetFrom t).link = s.link := rfl
theorem State.fetchesFrom_link (s t : State) : (s.fetchesFrom t).link = s.link := rfl
theorem State.releasedFrom_link (s t : State) : (s.releasedFrom t).link = s.link := rfl
theorem State.noticedFrom_link (s t : State) : (s.noticedFrom t).link = s.link := rfl
theorem State.sweptFrom_link (s t : State) : (s.sweptFrom t).link = s.link := rfl
theorem State.slotsFrom_link (s : State) (slots : Vector Slot 12) : ({ s with slots := slots } : State).link = s.link := rfl

theorem foldl_link {α : Type} {f : State → α → State} (keeps : ∀ (s : State) (a : α), (f s a).link = s.link)
    (as : List α) (s : State) : (as.foldl f s).link = s.link := by
  induction as generalizing s with
  | nil => rfl
  | cons a as ih => exact (ih _).trans (keeps s a)

/-! ### The budget (R21) -/

theorem State.BudgetOnly.link {s t : State} (h : s.BudgetOnly t) : t.link = s.link :=
  (congrArg State.link h).trans (s.budgetFrom_link t)

@[simp] theorem State.recompute_link (s : State) : s.recompute.link = s.link := s.recompute_frame.link

@[simp] theorem State.recomputeIf_link (s : State) (cause : Bool) : (s.recomputeIf cause).link = s.link :=
  (s.recomputeIf_frame cause).link

@[simp] theorem State.leaveFor_link (s : State) (i : SessionId) (target : SessionState) :
    (s.leaveFor i target).link = s.link := by
  simp [State.leaveFor]

@[simp] theorem State.enterStarted_link (s : State) (i : SessionId) (target : SessionState) :
    (s.enterStarted i target).link = s.link := by
  unfold State.enterStarted; split <;> simp

/-! ### Fetches, ledgers and what follows a change of one -/

@[simp] theorem State.withdraw_link (s : State) (r : EntryRef) : (s.withdraw r).link = s.link :=
  (congrArg State.link (s.withdraw_frame r)).trans (s.fetchesFrom_link _)

@[simp] theorem State.cancelSlot_link (s : State) (j : SlotId) (keep : Bool) : (s.cancelSlot j keep).link = s.link :=
  (congrArg State.link (s.cancelSlot_frame j keep)).trans (s.fetchesFrom_link _)

@[simp] theorem State.release_link (s : State) (i : SessionId) (p : Entry → Bool) : (s.release i p).link = s.link :=
  (congrArg State.link (s.release_frame i p)).trans (s.releasedFrom_link _)

@[simp] theorem State.flush_link (s : State) (i : SessionId) : (s.flush i).link = s.link :=
  (congrArg State.link (s.flush_frame i)).trans (s.releasedFrom_link _)

@[simp] theorem State.startTest_link (s : State) (i : SessionId) : (s.startTest i).link = s.link :=
  (congrArg State.link (s.startTest_frame i)).trans (s.noticedFrom_link _)

@[simp] theorem State.settle_link (s : State) (i : SessionId) (before : List Entry) : (s.settle i before).link = s.link :=
  (congrArg State.link (s.settle_frame i before)).trans (s.noticedFrom_link _)

@[simp] theorem State.countSkips_link (s : State) (i : SessionId) (n : Nat) : (s.countSkips i n).link = s.link :=
  (congrArg State.link (s.countSkips_frame i n)).trans (s.noticedFrom_link _)

@[simp] theorem State.sweep_link (s : State) (i : SessionId) : (s.sweep i).link = s.link :=
  (congrArg State.link (s.sweep_frame i)).trans (s.sweptFrom_link _)

@[simp] theorem State.mapSlots_link (s : State) (f : Slot → Slot) : (s.mapSlots f).link = s.link := by
  rw [State.mapSlots_frame, State.slotsFrom_link]

@[simp] theorem State.oweExpiries_link (s before : State) (j : SlotId) : (s.oweExpiries before j).link = s.link := by
  rw [State.oweExpiries_frame, State.slotsFrom_link]

/-! ### Failures (chapter 8) -/

@[simp] theorem State.applyOutcome_link (s : State) (r : EntryRef) (o : FailureOutcome) : (s.applyOutcome r o).link = s.link := by
  cases o <;> simp [State.applyOutcome, State.skipEntry, State.faultSession]

@[simp] theorem State.unavailable_link (s : State) (r : EntryRef) : (s.unavailable r).link = s.link := by
  unfold State.unavailable; simp only; split <;> simp

@[simp] theorem State.chargeFailure_link (s : State) (r : EntryRef) (due : Nat) : (s.chargeFailure r due).link = s.link := by
  unfold State.chargeFailure; simp only; split <;> simp

@[simp] theorem State.countStall_link (s : State) (i : SessionId) : (s.countStall i).link = s.link := rfl

/-! ### Grants (R127) -/

@[simp] theorem State.takeRung_link (s : State) (i : SessionId) (r : Nat) : (s.takeRung i r).link = s.link := by
  unfold State.takeRung; simp only
  split
  · split <;> simp
  · simp

@[simp] theorem State.drawEntry_link (s : State) (i : SessionId) (e : Entry) : (s.drawEntry i e).link = s.link := rfl

@[simp] theorem State.queueOrder_link (s : State) (j : SlotId) (tag : Nat) (r : EntryRef) :
    (s.queueOrder j tag r).link = s.link := rfl

@[simp] theorem State.advanceSegment_link (s : State) (i : SessionId) : (s.advanceSegment i).link = s.link := by
  unfold State.advanceSegment; split <;> simp

@[simp] theorem State.createEntry_link (s : State) (i : SessionId) : (s.createEntry i).link = s.link := by
  simp [State.createEntry]

@[simp] theorem State.reissueEntry_link (s : State) (i : SessionId) (e : Entry) : (s.reissueEntry i e).link = s.link := by
  unfold State.reissueEntry; simp only; split <;> simp

@[simp] theorem State.grantSlot_link (s : State) (j : SlotId) (i : SessionId) : (s.grantSlot j i).link = s.link := by
  unfold State.grantSlot; simp only; split <;> simp

/-! ### Ladder and session requests (chapters 3 and 4) -/

@[simp] theorem State.setStaging_link (s : State) (b : Buffer) (m : Memory) : (s.setStaging b m).link = s.link := by
  cases b <;> rfl

@[simp] theorem State.remapSession_link (old new : Ladder) (s : State) (i : SessionId) :
    (State.remapSession old new s i).link = s.link := by
  unfold State.remapSession; simp only
  split
  · simp
  · split <;> simp

@[simp] theorem State.replaceLadder_link (s : State) (l : LadderId) (new : Ladder) : (s.replaceLadder l new).link = s.link := by
  simp [State.replaceLadder, foldl_link (State.remapSession_link _ _)]

@[simp] theorem State.validateLadder_link (s : State) (l : LadderId) (new : Ladder) :
    (s.validateLadder l new).link = s.link := by
  unfold State.validateLadder; split <;> simp

@[simp] theorem State.configure_link (s : State) (i : SessionId) (payload : List Byte) :
    (s.configure i payload).link = s.link := by
  unfold State.configure State.reviewClass; simp only
  split <;> split <;> simp

@[simp] theorem State.configureChecked_link (s : State) (i : SessionId) (payload : List Byte) :
    (s.configureChecked i payload).link = s.link := by
  unfold State.configureChecked; simp only
  split
  · simp
  · split
    · simp
    · split
      · simp
      · split <;> simp

@[simp] theorem State.flagFlush_link (s : State) (i : SessionId) : (s.flagFlush i).link = s.link := by
  unfold State.flagFlush; split <;> simp

@[simp] theorem State.seekAway_link (s : State) (i : SessionId) (n : Nat) : (s.seekAway i n).link = s.link := by
  simp [State.seekAway]

@[simp] theorem State.unbindSession_link (s : State) (i : SessionId) : (s.unbindSession i).link = s.link := by
  unfold State.unbindSession; split <;> simp

/-! ### Playout (chapter 9) -/

@[simp] theorem State.releasePlaying_link (s : State) (i : SessionId) : (s.releasePlaying i).link = s.link := by
  simp [State.releasePlaying]

@[simp] theorem State.notBound_link (s : State) (c : ClientId) : (s.notBound c).link = s.link := by
  simp [State.notBound]
@[simp] theorem State.answerWait_link (s : State) (c : ClientId) (r : WaitReason) : (s.answerWait c r).link = s.link := by
  simp [State.answerWait, State.clearFlush]
@[simp] theorem State.answerHalt_link (s : State) (c : ClientId) (r : HaltReason) : (s.answerHalt c r).link = s.link := by
  simp [State.answerHalt, State.clearFlush]
@[simp] theorem State.handHead_link (s : State) (c : ClientId) (i : SessionId) (e : Entry) :
    (s.handHead c i e).link = s.link := by
  simp [State.handHead]
@[simp] theorem State.completeDrain_link (s : State) (i : SessionId) : (s.completeDrain i).link = s.link := by
  simp [State.completeDrain]

@[simp] theorem State.starve_link (s : State) (i : SessionId) : (s.starve i).link = s.link := by
  simp [State.starve]

@[simp] theorem State.answerNext_link (s : State) (c : ClientId) (i : SessionId) : (s.answerNext c i).link = s.link := by
  unfold State.answerNext
  simp only
  cases (s.session i).state with
  | closed => simp
  | opened => simp
  | priming => simp
  | starved => simp only; split <;> simp
  | running =>
    simp only
    split
    · simp
    · split <;> simp
  | draining =>
    simp only
    split
    · simp
    · split
      · simp
      · split <;> simp
  | faulted =>
    simp only
    split
    · simp
    · split <;> simp

@[simp] theorem State.progressOn_link (s : State) (i : SessionId) (e : Entry) (elapsed : Nat) :
    (s.progressOn i e elapsed).link = s.link := by
  simp [State.progressOn]

end Sys2Proof.Machine
end

