-- ==== Sys2Proof/Proofs/Outcomes.lean ====
section
/-! PROOFS. The next state of each kind of command, and the commands that leave the link parameters and the Link Meter alone. -/

namespace Sys2Proof.Machine

/-! ### What a taken frame, record, transfer or event can lead to -/

/-- A frame is not taken, refused for its length, or acted on (R172, R174, R184). -/
theorem takeFrame_next {required : Nat} {payload : List Byte} {act : State → State} {s t : State}
    (h : takeFrame required payload act s = .next t) :
    (s.inReset = true ∧ t = s) ∨ (s.inReset = false ∧ payload.length = required ∧ t = act s) ∨
      (s.inReset = false ∧ payload.length ≠ required ∧ t = s.respond (.length required)) := by
  cases Host.Outcome.next.inj h
  cases reset : s.inReset
  · by_cases length : payload.length = required <;> simp [length]
  · simp

theorem takeFrame_running {required : Nat} {payload : List Byte} {s : State} (act : State → State)
    (running : s.inReset = false) (length : payload.length = required) :
    takeFrame required payload act s = .next (act s) := by
  simp [takeFrame, running, length]

/-- A record is not taken, or acted on (R184). -/
theorem takeRecord_next {act : State → State} {s t : State} (h : takeRecord act s = .next t) :
    (s.inReset = true ∧ t = s) ∨ (s.inReset = false ∧ t = act s) := by
  cases Host.Outcome.next.inj h
  cases reset : s.inReset <;> simp

theorem takeRecord_running {s : State} (act : State → State) (running : s.inReset = false) :
    takeRecord act s = .next (act s) := by
  simp [takeRecord, running]

/-- A transfer is not acknowledged, or a client's (R157). -/
theorem takeTransfer_next {address : PlayoutAddress} {act : ClientId → State → State} {s t : State}
    (h : takeTransfer address act s = .next t) : t = s ∨ ∃ c, s.addressed address = some c ∧ t = act c s := by
  cases Host.Outcome.next.inj h
  cases client : s.addressed address <;> simp

/-- An event of the part's own does not arise, or takes place (log 4). -/
theorem ownEvent_next {due : Bool} {act : State → State} {s t : State} (h : ownEvent due act s = .next t) :
    t = s ∨ (s.inReset = false ∧ due = true ∧ t = act s) := by
  cases Host.Outcome.next.inj h
  cases reset : s.inReset <;> cases due <;> simp

theorem ownEvent_running {due : Bool} {s : State} (act : State → State) (running : s.inReset = false) :
    ownEvent due act s = .next (if due then act s else s) := by
  simp [ownEvent, running]

/-! ### Actions that leave the link parameters and the Link Meter alone -/

theorem takeFrame_link {required : Nat} {payload : List Byte} {act : State → State} {s t : State}
    (act_link : (act s).link = s.link) (h : takeFrame required payload act s = .next t) : t.link = s.link := by
  obtain ⟨-, rfl⟩ | ⟨-, -, rfl⟩ | ⟨-, -, rfl⟩ := takeFrame_next h
  · rfl
  · exact act_link
  · rfl

theorem takeRecord_link {act : State → State} {s t : State} (act_link : (act s).link = s.link)
    (h : takeRecord act s = .next t) : t.link = s.link := by
  obtain ⟨-, rfl⟩ | ⟨-, rfl⟩ := takeRecord_next h
  · rfl
  · exact act_link

theorem takeTransfer_link {address : PlayoutAddress} {act : ClientId → State → State} {s t : State}
    (act_link : ∀ c, (act c s).link = s.link) (h : takeTransfer address act s = .next t) : t.link = s.link := by
  obtain rfl | ⟨c, -, rfl⟩ := takeTransfer_next h
  · rfl
  · exact act_link c

theorem ownEvent_link {due : Bool} {act : State → State} {s t : State} (act_link : (act s).link = s.link)
    (h : ownEvent due act s = .next t) : t.link = s.link := by
  obtain rfl | ⟨-, -, rfl⟩ := ownEvent_next h
  · rfl
  · exact act_link

theorem withSession_link {payload : List Byte} {offset : Nat} {act : SessionId → State → State} {s : State}
    (act_link : ∀ i, (act i s).link = s.link) : (withSession payload offset act s).link = s.link := by
  unfold withSession; split
  · exact act_link _
  · rfl

theorem inStates_link {taken : SessionState → Bool} {i : SessionId} {act : State → State} {s : State}
    (act_link : (act s).link = s.link) : (inStates taken i act s).link = s.link := by
  unfold inStates; split
  · exact act_link
  · rfl

/-- A session request that leaves them alone in the states it is taken in. -/
theorem sessionRequest_link {required offset : Nat} {payload : List Byte} {taken : SessionState → Bool}
    {act : SessionId → State → State} {s t : State} (act_link : ∀ i, (act i s).link = s.link)
    (h : takeFrame required payload (withSession payload offset fun i => inStates taken i (act i)) s = .next t) :
    t.link = s.link :=
  takeFrame_link (withSession_link fun i => inStates_link (act_link i)) h

/-! ### Control requests -/

theorem execLoad_link {payload : List Byte} {s t : State} (h : execLoad payload s = .next t) : t.link = s.link := by
  cases Host.Outcome.next.inj h
  split
  · rfl
  · split
    · rfl
    · split
      · split <;> simp
      · rfl

theorem execCommit_link {payload : List Byte} {s t : State} (h : execCommit payload s = .next t) : t.link = s.link := by
  refine takeFrame_link ?_ h
  simp only
  split
  · split <;> simp
  · rfl

theorem execPatch_link {payload : List Byte} {s t : State} (h : execPatch payload s = .next t) : t.link = s.link := by
  refine takeFrame_link ?_ h
  split
  · split <;> simp
  · rfl

theorem execReadLadder_link {payload : List Byte} {s t : State} (h : execReadLadder payload s = .next t) :
    t.link = s.link := by
  refine takeFrame_link ?_ h
  split
  · rfl
  · split
    · rfl
    · split <;> rfl

theorem execOpen_link {payload : List Byte} {s t : State} (h : execOpen payload s = .next t) : t.link = s.link := by
  refine takeFrame_link ?_ h
  split
  · split
    · rfl
    · split <;> simp
  · rfl

theorem execSeek_link {payload : List Byte} {s t : State} (h : execSeek payload s = .next t) : t.link = s.link := by
  refine sessionRequest_link (fun i => ?_) h
  simp only
  split
  · rfl
  · split <;> simp

theorem execSetReservation_link {payload : List Byte} {s t : State} (h : execSetReservation payload s = .next t) :
    t.link = s.link := by
  refine sessionRequest_link (fun i => ?_) h
  split
  · rfl
  · split
    · rfl
    · split <;> simp

theorem execReadLedger_link {payload : List Byte} {s t : State} (h : execReadLedger payload s = .next t) :
    t.link = s.link := by
  refine takeFrame_link (withSession_link fun i => ?_) h
  split <;> rfl

theorem execBind_link {payload : List Byte} {s t : State} (h : execBind payload s = .next t) : t.link = s.link := by
  refine takeFrame_link ?_ h
  split
  · split
    · rfl
    · split
      · rfl
      · split <;> simp
  · rfl

theorem execUnbind_link {payload : List Byte} {s t : State} (h : execUnbind payload s = .next t) : t.link = s.link := by
  refine takeFrame_link (withSession_link fun c => ?_) h
  split <;> simp

theorem execUnknownRequest_link {code : Byte} {payload : List Byte} {s t : State}
    (h : execUnknownRequest code payload s = .next t) : t.link = s.link := by
  unfold execUnknownRequest at h
  split at h
  · cases h
  · cases Host.Outcome.next.inj h; split <;> rfl

theorem execSetNoticeEnable_link {payload : List Byte} {s t : State} (h : execSetNoticeEnable payload s = .next t) :
    t.link = s.link := by
  refine takeFrame_link ?_ h
  rfl

/-! ### Fetch records -/

theorem State.collect_link (s : State) (j : SlotId) (rest : List SlotId) : (s.collect j rest).link = s.link := by
  unfold State.collect; split <;> rfl

theorem execTake_link {s t : State} (h : execTake s = .next t) : t.link = s.link := by
  refine takeRecord_link ?_ h
  split
  · rfl
  · split
    · exact State.collect_link ..
    · rfl

theorem execBadRecord_link {bad : BadRecord} {s t : State} (h : execBadRecord bad s = .next t) : t.link = s.link := by
  unfold execBadRecord at h
  split at h
  · exact takeRecord_link (act := fun s => s.protocolError .badRecord) rfl h
  · cases h

/-! ### Playout transfers -/

theorem execNext_link {address : PlayoutAddress} {s t : State} (h : execNext address s = .next t) : t.link = s.link := by
  refine takeTransfer_link (fun c => ?_) h
  split <;> simp

theorem execProgress_link {address : PlayoutAddress} {elapsed : BitVec 16} {s t : State}
    (h : execProgress address elapsed s = .next t) : t.link = s.link := by
  refine takeTransfer_link (fun c => ?_) h
  split
  · rfl
  · split <;> simp

theorem execMalformedTransfer_link {address : PlayoutAddress} {bytes : List Byte} {s t : State}
    (h : execMalformedTransfer address bytes s = .next t) : t.link = s.link := by
  unfold execMalformedTransfer at h
  split at h
  · exact takeTransfer_link (act := fun c s => (s.notifyPart .clientProtocol).answerClient c .badRequest) (fun _ => rfl) h
  · cases h

theorem execPlayoutReadTransfer_link {address : PlayoutAddress} {count : Nat} {s t : State}
    (h : execPlayoutReadTransfer address count s = .next t) : t.link = s.link := by
  refine takeTransfer_link (fun c => ?_) h
  rfl

/-! ### The grant -/

theorem execGrant_link {s t : State} (h : execGrant s = .next t) : t.link = s.link := by
  refine ownEvent_link ?_ h
  split <;> simp

end Sys2Proof.Machine
end

