-- ==== Sys2Proof/Proofs/LinkRange.lean ====
section
/-! PROOFS. Every step keeps the link parameters and the Link Meter in their ranges (R8, R13, R15). -/

open Sys2Proof Sys2Proof.Machine

namespace Sys2Proof.Machine

/-! ### The meter's operations -/

theorem clamp_bounds {lo hi : Nat} (le : lo ≤ hi) (x : Nat) : lo ≤ clamp lo hi x ∧ clamp lo hi x ≤ hi := by
  unfold clamp; omega

theorem saturate_le (maximum x : Nat) : saturate maximum x ≤ maximum := Nat.min_le_left ..

theorem count16_le (n : Nat) : count16 n ≤ 65535 := saturate_le ..

theorem moveToward_bounds (weight estimate sample : Nat) :
    64 ≤ moveToward weight estimate sample ∧ moveToward weight estimate sample ≤ 1000000 :=
  clamp_bounds (by decide) _

/-- Whatever SET-LINK carries is stored in range (R15, R19, R134, R142). -/
theorem LinkParams.clamped_inRange (p : LinkParams) : p.clamped.InRange :=
  ⟨clamp_bounds (by decide) _, (clamp_bounds (by decide) _).2, clamp_bounds (by decide) _, clamp_bounds (by decide) _,
    (clamp_bounds (by decide) _).2, clamp_bounds (by decide) _, clamp_bounds (by decide) _, clamp_bounds (by decide) _⟩

theorem Meter.initial_inRange {p : LinkParams} (range : p.InRange) : (Meter.initial p).InRange := by
  obtain ⟨window, -, estimate, -⟩ := range
  exact ⟨estimate, estimate, (Nat.min_self _).symm, by simp [Meter.initial], window, Nat.zero_le _, by simp [Meter.initial],
    by simp [Meter.initial], by simp [Meter.initial], by simp [Meter.initial]⟩

theorem Meter.reinitialise_inRange {p : LinkParams} {m : Meter} (params : p.InRange) (range : m.InRange) :
    (m.reinitialise p).InRange := by
  obtain ⟨-, -, -, -, -, -, -, -, -, thin⟩ := range
  obtain ⟨fast, slow, capacity, bytes, length, elapsed, last, samples, halvings, -⟩ := Meter.initial_inRange params
  exact ⟨fast, slow, capacity, bytes, length, elapsed, last, samples, halvings, thin⟩

theorem Meter.openWindow_inRange {m : Meter} {length : Nat} (range : m.InRange) (window : 20 ≤ length ∧ length ≤ 1000) :
    (m.openWindow length).InRange := by
  obtain ⟨fast, slow, capacity, -, -, -, counts⟩ := range
  exact ⟨fast, slow, capacity, by simp [Meter.openWindow], window, Nat.zero_le _, counts⟩

theorem Meter.credit_inRange {m : Meter} (count : Nat) (range : m.InRange) : (m.credit count).InRange := by
  obtain ⟨fast, slow, capacity, -, window⟩ := range
  exact ⟨fast, slow, capacity, saturate_le .., window⟩

theorem Meter.thin_inRange {m : Meter} (range : m.InRange) : m.thin.InRange := by
  obtain ⟨fast, slow, capacity, bytes, length, elapsed, last, samples, halvings, -⟩ := range
  exact ⟨fast, slow, capacity, bytes, length, elapsed, last, samples, halvings, count16_le _⟩

theorem Meter.sample_inRange {m : Meter} (range : m.InRange) : m.sample.InRange := by
  obtain ⟨-, -, -, bytes, length, elapsed, -, -, halvings, thin⟩ := range
  exact ⟨moveToward_bounds .., moveToward_bounds .., rfl, bytes, length, elapsed, (clamp_bounds (by decide) _).2,
    count16_le _, halvings, thin⟩

theorem Meter.halve_inRange {m : Meter} (range : m.InRange) : m.halve.InRange := by
  obtain ⟨fast, slow, -, bytes, length, elapsed, last, samples, -, thin⟩ := range
  have halved : 64 ≤ max 64 (m.fast / 2) ∧ max 64 (m.fast / 2) ≤ 1000000 := by omega
  exact ⟨halved, slow, rfl, bytes, length, elapsed, last, samples, count16_le _, thin⟩

/-- Another elapsed time within the window's length. -/
theorem Meter.elapsed_inRange {m : Meter} {elapsed : Nat} (range : m.InRange) (le : elapsed ≤ m.windowLength) :
    ({ m with windowElapsed := elapsed } : Meter).InRange := by
  obtain ⟨fast, slow, capacity, bytes, length, -, counts⟩ := range
  exact ⟨fast, slow, capacity, bytes, length, le, counts⟩

/-! ### The part's operations that touch the meter -/

theorem State.LinkInRange.withMeter {s : State} {m : Meter} (range : s.LinkInRange) (meter : m.InRange) :
    ({ s with meter := m } : State).LinkInRange := ⟨range.1, meter⟩

theorem State.present_link (s : State) (m : Meter) : (s.present m).link = (s.params, m) :=
  State.recomputeIf_link _ _

theorem State.present_linkInRange {s : State} {m : Meter} (range : s.LinkInRange) (meter : m.InRange) :
    (s.present m).LinkInRange :=
  (range.withMeter meter).of_link (s.present_link m)

theorem State.expireWindow_linkInRange {s : State} (range : s.LinkInRange) : s.expireWindow.LinkInRange := by
  unfold State.expireWindow
  extract_lets s₁
  have range₁ : s₁.LinkInRange := by
    unfold s₁; split
    · exact range.withMeter (Meter.thin_inRange range.2)
    · exact State.present_linkInRange range (Meter.sample_inRange range.2)
  exact range₁.withMeter (Meter.openWindow_inRange range₁.2 range₁.1.1)

theorem State.expireWatchdog_link (s : State) (j : SlotId) (r : EntryRef) :
    (s.expireWatchdog j r).link = (s.params, s.meter.halve) := by
  obtain ⟨params, meter⟩ := State.link_eq_iff.mp (s.cancelSlot_link j true)
  simp [State.expireWatchdog, State.present_link, params, meter]

theorem State.halved_linkInRange {s t : State} (range : s.LinkInRange) (halved : t.link = (s.params, s.meter.halve)) :
    t.LinkInRange :=
  (range.withMeter (Meter.halve_inRange range.2)).of_link halved

theorem State.rereadOccupancy_linkInRange {s : State} (before : State) (range : s.LinkInRange) :
    (s.rereadOccupancy before).LinkInRange := by
  unfold State.rereadOccupancy; split
  · have le : min s.meter.windowElapsed (s.meter.windowLength - 1) ≤ s.meter.windowLength := by omega
    exact range.withMeter (Meter.elapsed_inRange range.2 le)
  · exact range

theorem State.endFetch_linkInRange {s : State} (j : SlotId) (range : s.LinkInRange) : (s.endFetch j).LinkInRange :=
  State.rereadOccupancy_linkInRange s (range.of_link (s.freeSlotAt_link j))

theorem State.doneTaken_link (s : State) (j : SlotId) (r : EntryRef) (result : DoneResult) (d : Delivery) :
    (s.doneTaken j r result d).link = (s.endFetch j).link := by
  cases result <;> simp [State.doneTaken]

theorem State.adopt_link (s : State) (r : EntryRef) (kept : Issue) (d : Delivery) : (s.adopt r kept d).link = s.link := by
  simp [State.adopt]

theorem State.doneCancelling_link (s : State) (j : SlotId) (t : Nat) (back : Option EntryRef) (kept : Issue)
    (result : DoneResult) (d : Delivery) :
    (s.doneCancelling j t back kept result d).link
      = ({ s with cancelList := s.cancelList.filter (· != t) }.endFetch j).link := by
  unfold State.doneCancelling
  simp only
  split
  · rw [State.answerFetch_link, State.adopt_link]
  · rw [State.answerFetch_link]

theorem State.creditWindow_linkInRange {s : State} (count : Nat) (range : s.LinkInRange) :
    (s.creditWindow count).LinkInRange :=
  range.withMeter (Meter.credit_inRange count range.2)

theorem State.checkAbandonment_link (s : State) (j : SlotId) (r : EntryRef) : (s.checkAbandonment j r).link = s.link := by
  unfold State.checkAbandonment; split
  · split <;> simp [State.abandon]
  · rfl

theorem State.arriveTaken_link (s : State) (j : SlotId) (t : Nat) (r : EntryRef) (count : Nat) :
    (s.arriveTaken j t r count).link = (s.creditWindow count).link := by
  simp [State.arriveTaken, State.creditEntry, State.checkAbandonment_link]

theorem State.pauseLink_linkInRange {s : State} (range : s.LinkInRange) : s.pauseLink.LinkInRange := by
  unfold State.pauseLink; split
  · exact range
  · exact State.rereadOccupancy_linkInRange s (range.withMeter range.2)

theorem State.dropSlot_link (s : State) (j : SlotId) : (s.dropSlot j).link = s.link := by
  unfold State.dropSlot; split <;> rfl

theorem State.sweepSettled_link (s : State) (i : SessionId) : (s.sweepSettled i).link = s.link := by
  simp [State.sweepSettled]

theorem State.resetLink_link (s : State) : s.resetLink.link = (s.params, s.meter.reinitialise s.params) := by
  obtain ⟨params, meter⟩ := State.link_eq_iff.mp (foldl_link State.dropSlot_link allSlots s)
  simp only [State.resetLink, foldl_link State.sweepSettled_link, State.notifyPart_link, State.recompute_link, params,
    meter]
  rfl

/-- A millisecond moves the timebase, the window's occupied time and the watchdogs, and nothing else (R1, R135). -/
theorem State.tick_frame (s : State) :
    s.tick = { s with
      now := s.now + 1
      slots := s.tick.slots
      meter := { s.meter with windowElapsed := s.meter.windowElapsed + if s.occupied then 1 else 0 } } := by
  have elapsed : (if s.occupied then { s with meter := { s.meter with windowElapsed := s.meter.windowElapsed + 1 } } else s)
      = { s with
        meter := { s.meter with windowElapsed := s.meter.windowElapsed + if s.occupied then 1 else 0 } } := by
    split <;> rfl
  have ticked (s₁ : State) : (if s.meter.paused then s₁ else s₁.mapSlots Slot.tick)
      = { s₁ with slots := (if s.meter.paused then s₁ else s₁.mapSlots Slot.tick).slots } := by
    split
    · rfl
    · exact s₁.mapSlots_frame _
  simp only [State.tick, elapsed]
  rw [ticked]

/-- One millisecond passes while no window is due (log 1). -/
theorem State.tick_linkInRange {s : State} (range : s.LinkInRange) (none_due : s.windowDue = false) :
    s.tick.LinkInRange := by
  have within : s.meter.windowElapsed + (if s.occupied then 1 else 0) ≤ s.meter.windowLength := by
    obtain ⟨-, -, -, -, -, -, elapsed, -⟩ := range
    cases occupied : s.occupied
    · exact elapsed
    · have below : ¬s.meter.windowLength ≤ s.meter.windowElapsed := by
        simpa only [State.windowDue, occupied, Bool.true_and, decide_eq_false_iff_not] using none_due
      exact Nat.lt_of_not_le below
  rw [State.tick_frame]
  exact ⟨range.1, Meter.elapsed_inRange range.2 within⟩

/-! ### Every command -/

/-- The values after power-on lie in range (R13, R15). -/
theorem powerOn_linkInRange (straps : BitVec 3) : (State.powerOn straps).LinkInRange :=
  have params : LinkParams.powerOn.InRange := by decide
  ⟨params, Meter.initial_inRange params⟩

theorem execDone_linkInRange {tag : Byte} {result : DoneResult} {total token : BitVec 32} {duration : BitVec 16}
    {s t : State} (range : s.LinkInRange) (h : execDone tag result total token duration s = .next t) : t.LinkInRange := by
  obtain ⟨-, rfl⟩ | ⟨-, rfl⟩ := takeRecord_next h
  · exact range
  · simp only
    split
    · exact range
    · split
      · exact (State.endFetch_linkInRange _ range).of_link (State.doneTaken_link ..)
      · next tag _ _ _ _ =>
        exact (State.endFetch_linkInRange (s := { s with cancelList := s.cancelList.filter (· != tag) }) _ range).of_link
          (State.doneCancelling_link ..)
      · exact range
      · exact range

theorem execArrival_linkInRange {tag : Byte} {count : BitVec 16} {s t : State} (range : s.LinkInRange)
    (h : execArrival tag count s = .next t) : t.LinkInRange := by
  obtain ⟨-, rfl⟩ | ⟨-, rfl⟩ := takeRecord_next h
  · exact range
  · split
    · exact range
    · split
      · exact (State.creditWindow_linkInRange _ range).of_link (State.arriveTaken_link ..)
      · exact State.creditWindow_linkInRange _ range
      · exact range
      · exact range

theorem execStallWatchdogExpiry_linkInRange {slot : SlotId} {s t : State} (range : s.LinkInRange)
    (h : execStallWatchdogExpiry slot s = .next t) : t.LinkInRange := by
  obtain rfl | ⟨-, -, rfl⟩ := ownEvent_next h
  · exact range
  · split
    · exact State.halved_linkInRange range (s.expireWatchdog_link ..)
    · exact State.halved_linkInRange range (State.present_link ..)
    · exact range
    · exact range

theorem execSetLink_linkInRange {payload : List Byte} {s t : State} (range : s.LinkInRange)
    (h : execSetLink payload s = .next t) : t.LinkInRange := by
  obtain ⟨-, rfl⟩ | ⟨-, -, rfl⟩ | ⟨-, -, rfl⟩ := takeFrame_next h
  · exact range
  · have stored : ({ s with params := (linkParamsCarried payload).clamped } : State).LinkInRange :=
      ⟨LinkParams.clamped_inRange _, range.2⟩
    exact stored.of_link ((State.respond_link _ _).trans (State.recomputeIf_link _ _))
  · exact range

theorem State.resetBlocks_link (s : State) : s.resetBlocks.link = (s.params, Meter.initial s.params) := rfl

theorem execResetPart_linkInRange {payload : List Byte} {s t : State} (range : s.LinkInRange)
    (h : execResetPart payload s = .next t) : t.LinkInRange := by
  obtain ⟨-, rfl⟩ | ⟨-, -, rfl⟩ | ⟨-, -, rfl⟩ := takeFrame_next h
  · exact range
  · exact (range.withMeter (Meter.initial_inRange range.1)).of_link (s.resetBlocks_link)
  · exact range

theorem execLinkReset_linkInRange {s t : State} (range : s.LinkInRange) (h : execLinkReset s = .next t) :
    t.LinkInRange := by
  obtain ⟨-, rfl⟩ | ⟨-, rfl⟩ := takeRecord_next h
  · exact range
  · exact (range.withMeter (Meter.reinitialise_inRange range.1 range.2)).of_link
      ((State.answerFetch_link _ _).trans s.resetLink_link)

theorem execPause_linkInRange {s t : State} (range : s.LinkInRange) (h : execPause s = .next t) : t.LinkInRange := by
  obtain ⟨-, rfl⟩ | ⟨-, rfl⟩ := takeRecord_next h
  · exact range
  · exact State.pauseLink_linkInRange range

theorem execResume_linkInRange {s t : State} (range : s.LinkInRange) (h : execResume s = .next t) : t.LinkInRange := by
  obtain ⟨-, rfl⟩ | ⟨-, rfl⟩ := takeRecord_next h
  · exact range
  · exact range.withMeter range.2

theorem execWindowExpiry_linkInRange {s t : State} (range : s.LinkInRange) (h : execWindowExpiry s = .next t) :
    t.LinkInRange := by
  obtain rfl | ⟨-, -, rfl⟩ := ownEvent_next h
  · exact range
  · exact State.expireWindow_linkInRange range

theorem exec_linkInRange {c : Instr} {s t : State} (range : s.LinkInRange) (h : exec c s = .next t) : t.LinkInRange := by
  cases c with
  | powerOn straps => cases Host.Outcome.next.inj h; exact powerOn_linkInRange straps
  | resetNFalls => cases Host.Outcome.next.inj h; exact powerOn_linkInRange 0
  | setLink payload => exact execSetLink_linkInRange range h
  | resetPart payload => exact execResetPart_linkInRange range h
  | arrival tag count => exact execArrival_linkInRange range h
  | done tag result total token duration => exact execDone_linkInRange range h
  | pause => exact execPause_linkInRange range h
  | resume => exact execResume_linkInRange range h
  | linkReset => exact execLinkReset_linkInRange range h
  | windowExpiry => exact execWindowExpiry_linkInRange range h
  | stallWatchdogExpiry slot => exact execStallWatchdogExpiry_linkInRange range h
  | readLink payload => exact range.of_link (takeFrame_link (act := fun s => s.respondWith s.linkBytes) rfl h)
  | load payload => exact range.of_link (execLoad_link h)
  | commit payload => exact range.of_link (execCommit_link h)
  | patch payload => exact range.of_link (execPatch_link h)
  | readLadder payload => exact range.of_link (execReadLadder_link h)
  | openSession payload => exact range.of_link (execOpen_link h)
  | configure payload =>
    exact range.of_link (sessionRequest_link (act := fun i s => s.configureChecked i payload) (fun i => by simp) h)
  | start payload => exact range.of_link (sessionRequest_link (fun i => by simp) h)
  | holdPlayout payload => exact range.of_link (sessionRequest_link (fun i => by simp) h)
  | resumePlayout payload => exact range.of_link (sessionRequest_link (fun i => by simp) h)
  | endSession payload => exact range.of_link (sessionRequest_link (fun i => by simp) h)
  | seek payload => exact range.of_link (execSeek_link h)
  | closeSession payload => exact range.of_link (sessionRequest_link (fun i => by simp) h)
  | setReservation payload => exact range.of_link (execSetReservation_link h)
  | clearReservation payload => exact range.of_link (sessionRequest_link (fun i => by simp) h)
  | readSession payload => exact range.of_link (takeFrame_link (withSession_link fun i => by simp) h)
  | readLedger payload => exact range.of_link (execReadLedger_link h)
  | bindClient payload => exact range.of_link (execBind_link h)
  | unbindClient payload => exact range.of_link (execUnbind_link h)
  | readClient payload => exact range.of_link (takeFrame_link (withSession_link fun c => by simp) h)
  | readNotices payload =>
    exact range.of_link (takeFrame_link (act := fun s => s.emptyNotices.respondWith s.noticeBytes) rfl h)
  | setNoticeEnable payload => exact range.of_link (execSetNoticeEnable_link h)
  | unknownRequest code payload => exact range.of_link (execUnknownRequest_link (payload := payload) h)
  | controlFrameDiscard => cases Host.Outcome.next.inj h; exact range
  | take => exact range.of_link (execTake_link h)
  | badRecord bad => exact range.of_link (execBadRecord_link h)
  | fetchRecordDiscard => cases Host.Outcome.next.inj h; exact range
  | next address => exact range.of_link (execNext_link h)
  | progress address elapsed => exact range.of_link (execProgress_link h)
  | malformedTransfer address bytes => exact range.of_link (execMalformedTransfer_link h)
  | playoutReadTransfer address count => exact range.of_link (execPlayoutReadTransfer_link h)
  | notBeforeReached session segment => cases Host.Outcome.next.inj h; exact range
  | grant => exact range.of_link (execGrant_link h)

/-! ### Every step -/

/-- While a millisecond passes no window is due. -/
theorem windowDue_of_dueEvents_nil {s : State} (none_due : s.dueEvents = []) : s.windowDue = false := by
  cases due : s.windowDue
  · rfl
  · simp [State.dueEvents, due] at none_due

theorem idle_linkInRange {s t : State} (range : s.LinkInRange) (h : s.idle = .next t) : t.LinkInRange := by
  unfold State.idle at h
  split at h
  · cases h; exact range
  · split at h
    · next none_due => cases h; exact State.tick_linkInRange range (windowDue_of_dueEvents_nil none_due)
    · exact exec_linkInRange range h
    · exact exec_linkInRange (s := { s with openChoices := s.openChoices + 1 }) range h

end Sys2Proof.Machine

namespace Sys2Proof.Proofs

/-- Settles O49, command by command: `exec_linkInRange`, and `idle_linkInRange` where no command waits. -/
theorem stepKeepsTheLinkInRange : Obligations.StepKeepsTheLinkInRange := by
  intro s t range h
  unfold step at h
  split at h
  · next c rest _ => exact exec_linkInRange (s := { s with pending := rest }) range h
  · exact idle_linkInRange range h

end Sys2Proof.Proofs
end

