-- ==== Sys2Proof/Proofs/Resets.lean ====
section
/-! PROOFS. What POWER_ON, RESET_N_FALLS and RESET_PART leave (R13, R14, R183, R184), and that the state after reset is sound. -/

open Sys2Proof Sys2Proof.Machine

namespace Sys2Proof.Machine

/-! ### The records after power-on -/

@[simp] theorem powerOn_session (straps : BitVec 3) (i : SessionId) : (State.powerOn straps).session i = Session.initial :=
  Vector.getElem_replicate ..

@[simp] theorem powerOn_slot (straps : BitVec 3) (j : SlotId) : (State.powerOn straps).slot j = .free :=
  Vector.getElem_replicate ..

@[simp] theorem powerOn_ladder (straps : BitVec 3) (l : LadderId) : (State.powerOn straps).ladder l = Ladder.empty :=
  Vector.getElem_replicate ..

@[simp] theorem powerOn_client (straps : BitVec 3) (c : ClientId) : (State.powerOn straps).client c = Client.initial :=
  Vector.getElem_replicate ..

@[simp] theorem powerOn_noticesOf (straps : BitVec 3) (i : SessionId) : (State.powerOn straps).noticesOf i = 0 :=
  Vector.getElem_replicate ..

/-- Where every slot is FREE nothing is occupied (R1). -/
theorem State.occupied_of_free {s : State} (free : ∀ j, s.slot j = .free) : s.occupied = false := by
  simp [State.occupied, free, Slot.occupying]

/-- An empty notice set has no enabled member (R182). -/
theorem State.enabledMember_of_empty {s : State} (sessions : ∀ i, s.noticesOf i = 0) (part : s.partNotices = 0) :
    s.enabledMember = false := by
  simp [State.enabledMember, sessions, part]

/-- The part at its power-on values, but for RESET_N, the base address and what the model keeps for itself. -/
def State.poweredOn (inReset : Bool) (base openChoices : Nat) (pending : List Instr) : State :=
  { State.powerOn 0 with inReset := inReset, baseAddress := base, openChoices := openChoices, pending := pending }

theorem exec_powerOn (straps : BitVec 3) (s : State) :
    exec (.powerOn straps) s = .next (.poweredOn false (32 + 8 * straps.toNat) s.openChoices s.pending) := rfl

theorem exec_resetNFalls (s : State) :
    exec .resetNFalls s = .next (.poweredOn true s.baseAddress s.openChoices s.pending) := rfl

/-! ### RESET_PART -/

theorem State.resetBlocks_attn (s : State) : s.resetBlocks.attn = false :=
  State.enabledMember_of_empty (fun _ => Vector.getElem_replicate ..) rfl

theorem exec_resetPart {s : State} (running : s.inReset = false) :
    exec (.resetPart []) s = .next (s.resetBlocks.respond .normal) :=
  takeFrame_running (fun s => s.resetBlocks.respond .normal) running rfl

/-! ### The session record after reset -/

theorem Session.initial_inRange : Session.initial.InRange := by decide

theorem Session.initial_ledgerSound : Session.initial.LedgerSound := by decide

end Sys2Proof.Machine

namespace Sys2Proof.Proofs

/-- Settles O5: both states are at the power-on values, whatever the state before. -/
theorem linkMeterAtPowerOn : Obligations.LinkMeterAtPowerOn := by
  intro straps s
  refine ⟨_, _, exec_resetNFalls s, exec_powerOn straps _, rfl, rfl, fun v mem => ?_⟩
  obtain ⟨low, base, openChoices, pending, rfl⟩ :
      ∃ low base openChoices pending, v = .poweredOn low base openChoices pending := by
    simp only [List.mem_cons, List.not_mem_nil, or_false] at mem
    obtain rfl | rfl := mem <;> exact ⟨_, _, _, _, rfl⟩
  have free : ∀ j, (State.poweredOn low base openChoices pending).slot j = .free := powerOn_slot 0
  exact ⟨rfl, rfl, rfl, rfl, rfl, rfl, rfl, rfl, rfl, rfl, rfl, rfl, rfl, rfl, free, State.occupied_of_free free⟩

/-- Settles O6: both commands leave `State.poweredOn`. -/
theorem powerOnReset : Obligations.PowerOnReset := by
  intro straps s
  refine ⟨_, _, exec_powerOn straps s, exec_resetNFalls s, rfl, rfl, rfl, rfl, fun v mem => ?_⟩
  obtain ⟨low, base, rfl⟩ : ∃ low base, v = .poweredOn low base s.openChoices s.pending := by
    simp only [List.mem_cons, List.not_mem_nil, or_false] at mem
    obtain rfl | rfl := mem <;> exact ⟨_, _, rfl⟩
  exact ⟨rfl, rfl, rfl, rfl, rfl, powerOn_ladder 0, fun _ => ⟨rfl, rfl⟩, powerOn_session 0, rfl, powerOn_slot 0, rfl, rfl, rfl,
    rfl, powerOn_client 0, rfl, rfl, powerOn_noticesOf 0, rfl, rfl, rfl, rfl, rfl, rfl, rfl, rfl, rfl, rfl⟩

/-- Settles O7: the blocks are reset, and ATTN with the notice set empty is released. -/
theorem resetPart : Obligations.ResetPart := by
  intro s running
  refine ⟨_, exec_resetPart running, ?_, fun _ => Vector.getElem_replicate .., fun _ => Vector.getElem_replicate ..,
    fun _ => Vector.getElem_replicate .., fun _ => Vector.getElem_replicate ..⟩
  exact congrArg (fun attn => { s.resetBlocks.respond .normal with attn := attn }) s.resetBlocks_attn

/-- Settles O9: every record is the initial one, every slot FREE, every list empty. -/
theorem resetIsSound : Obligations.ResetIsSound := by
  have session : ∀ i, State.reset.session i = Session.initial := powerOn_session 0
  have slot : ∀ j, State.reset.slot j = .free := powerOn_slot 0
  have ladder : ∀ l, State.reset.ladder l = Ladder.empty := powerOn_ladder 0
  have client : ∀ c, State.reset.client c = Client.initial := powerOn_client 0
  refine ⟨powerOn_linkInRange 0, by decide, ?parking, ?due, ?ladders, reset_staging_wf, ?rungs, ?sessions, ?unheld,
    by decide, ?ledgers, ?winding, ?taint, ?tags, ?fetches, ?bindings, ?attn, ?reset⟩
  case parking => intro i; rw [session]; rfl
  case due =>
    refine ⟨fun _ _ i started => ?_, fun inForce => by cases inForce⟩
    rw [session] at started; cases started
  case ladders => intro l; rw [ladder]; exact .inl ⟨rfl, rfl⟩
  case rungs => intro i notClosed; rw [session] at notClosed; exact absurd rfl notClosed
  case sessions => intro i; rw [session]; exact Session.initial_inRange
  case unheld => intro i opened; rw [session] at opened; cases opened
  case ledgers => intro i; rw [session]; exact Session.initial_ledgerSound
  case winding => intro i winding; rw [session] at winding; cases winding
  case taint => intro i; rw [session]; exact ⟨rfl, fun _ => rfl⟩
  case tags =>
    have no_tag : ∀ j, (State.reset.slot j).tag? = none := fun j => by rw [slot]; rfl
    have not_queued : ∀ j, (State.reset.slot j).isQueued = false := fun j => by rw [slot]; rfl
    refine ⟨fun j t mem => ?_, fun j k t mem => ?_, by decide, .nil, fun j => ?_, .nil, fun t mem => by cases mem⟩
    · rw [no_tag] at mem; cases mem
    · rw [no_tag] at mem; cases mem
    · rw [not_queued]; simp [State.reset, State.powerOn]
  case fetches =>
    refine ⟨fun j => ?_, fun i e mem => ?_⟩
    · rw [slot]; rfl
    · rw [session] at mem; cases mem
  case bindings =>
    have unbound : ∀ c, (State.reset.client c).binding = none := fun c => by rw [client]; rfl
    refine ⟨fun c i mem => ?_, fun c d i mem => ?_, fun c _ => ?_⟩
    · rw [unbound] at mem; cases mem
    · rw [unbound] at mem; cases mem
    · rw [client]; exact ⟨rfl, rfl, rfl⟩
  case attn => exact (State.enabledMember_of_empty (powerOn_noticesOf 0) rfl).symm
  case reset => intro low; cases low

end Sys2Proof.Proofs
end

