-- ==== Sys2Proof/Proofs/Recompute.lean ====
section
/-! PROOFS. One recompute of the budget meets the relation `State.Recomputed`, and ATTN follows it (R20–R30, R182). -/

namespace Sys2Proof.Machine

/-! ### Step 2: at most one of the two parking actions -/

theorem State.mustPark_iff (s : State) :
    s.mustPark = true ↔ s.parkingInForce = false ∧
      (∃ k, (s.session k).state.started = true ∧ (s.session k).parked = false ∧ (s.session k).isBackground = true) ∧
      s.usable < s.floorSumAll := by
  simp [State.mustPark, State.holdsShare, State.isStarted, mem_allSessions, and_assoc]

theorem State.mayUnpark_iff (s : State) :
    s.mayUnpark = true ↔ s.parkingInForce = true ∧ s.floorSumAll ≤ s.usable * 7 / 8 := by
  simp [State.mayUnpark]

/-- What the review of parking can do: the parking action, the unparking action, or nothing (R21). -/
theorem State.reviewParking_cases (s : State) :
    (s.mustPark = true ∧ s.reviewParking = s.park) ∨
    (s.mustPark = false ∧ s.mayUnpark = true ∧ s.reviewParking = s.unpark) ∨
    (s.mustPark = false ∧ s.mayUnpark = false ∧ s.reviewParking = s) := by
  unfold State.reviewParking
  cases s.mustPark <;> cases s.mayUnpark <;> simp

@[simp] theorem State.park_parkingInForce (s : State) : s.park.parkingInForce = true := by simp [State.park]
@[simp] theorem State.unpark_parkingInForce (s : State) : s.unpark.parkingInForce = false := by simp [State.unpark]

theorem State.park_partNotices (s : State) : s.park.partNotices = s.partNotices ||| 2 := by
  unfold State.park; rw [State.mapSessions_frame]; rfl

theorem State.unpark_partNotices (s : State) : s.unpark.partNotices = s.partNotices ||| 2 := by
  unfold State.unpark; rw [State.mapSessions_frame]; rfl

/-- A notice of part scope has ATTN judged afresh (R182). -/
theorem State.notifyPart_judged (s : State) (k : PartKind) : (s.notifyPart k).attn = (s.notifyPart k).enabledMember := rfl

theorem State.park_attn (s : State) : s.park.attn = s.park.enabledMember := by
  unfold State.park; exact State.notifyPart_judged ..

theorem State.unpark_attn (s : State) : s.unpark.attn = s.unpark.enabledMember := by
  unfold State.unpark; exact State.notifyPart_judged ..

@[simp] theorem State.reviewParking_congested (s : State) : s.reviewParking.congested = s.congested := by
  obtain ⟨-, eq⟩ | ⟨-, -, eq⟩ | ⟨-, -, eq⟩ := s.reviewParking_cases <;> rw [eq]
  · unfold State.park; rw [State.mapSessions_frame]; rfl
  · unfold State.unpark; rw [State.mapSessions_frame]; rfl

/-- PARKING is set exactly where its flag changes (R25, R27). -/
theorem State.reviewParking_partNotices (s : State) :
    s.reviewParking.partNotices
      = s.partNotices ||| if s.reviewParking.parkingInForce = s.parkingInForce then 0 else 2 := by
  obtain ⟨must, eq⟩ | ⟨-, may, eq⟩ | ⟨-, -, eq⟩ := s.reviewParking_cases <;> rw [eq]
  · obtain ⟨notInForce, -⟩ := s.mustPark_iff.mp must
    simp [State.park_partNotices, notInForce]
  · obtain ⟨inForce, -⟩ := s.mayUnpark_iff.mp may
    simp [State.unpark_partNotices, inForce]
  · simp

/-- ATTN is judged afresh where the parking flag changes (R182). -/
theorem State.reviewParking_attn (s : State) :
    s.reviewParking.attn
      = if s.reviewParking.parkingInForce = s.parkingInForce then s.attn else s.reviewParking.enabledMember := by
  obtain ⟨must, eq⟩ | ⟨-, may, eq⟩ | ⟨-, -, eq⟩ := s.reviewParking_cases <;> rw [eq]
  · obtain ⟨notInForce, -⟩ := s.mustPark_iff.mp must
    simp [State.park_attn, notInForce]
  · obtain ⟨inForce, -⟩ := s.mayUnpark_iff.mp may
    simp [State.unpark_attn, inForce]
  · simp

/-! ### Step 3: the shares -/

/-- The shares go to the session records alone (R24). -/
theorem State.giveShares_frame (s : State) : s.giveShares = { s with sessions := s.giveShares.sessions } :=
  s.mapSessions_frame _

@[simp] theorem State.giveShares_usable (s : State) : s.giveShares.usable = s.usable := by
  rw [State.giveShares_frame]
@[simp] theorem State.giveShares_ladders (s : State) : s.giveShares.ladders = s.ladders := by
  rw [State.giveShares_frame]
@[simp] theorem State.giveShares_parkingInForce (s : State) : s.giveShares.parkingInForce = s.parkingInForce := by
  rw [State.giveShares_frame]
@[simp] theorem State.giveShares_congested (s : State) : s.giveShares.congested = s.congested := by
  rw [State.giveShares_frame]
@[simp] theorem State.giveShares_partNotices (s : State) : s.giveShares.partNotices = s.partNotices := by
  rw [State.giveShares_frame]
@[simp] theorem State.giveShares_attn (s : State) : s.giveShares.attn = s.attn := by
  rw [State.giveShares_frame]

/-! ### Step 4: the congested flag -/

@[simp] theorem State.reviewCongestion_usable (s : State) : s.reviewCongestion.usable = s.usable := by
  unfold State.reviewCongestion; simp only; split <;> rfl
@[simp] theorem State.reviewCongestion_ladders (s : State) : s.reviewCongestion.ladders = s.ladders := by
  unfold State.reviewCongestion; simp only; split <;> rfl
@[simp] theorem State.reviewCongestion_parkingInForce (s : State) : s.reviewCongestion.parkingInForce = s.parkingInForce := by
  unfold State.reviewCongestion; simp only; split <;> rfl

@[simp] theorem State.reviewCongestion_congested (s : State) :
    s.reviewCongestion.congested = decide (s.usable < s.floorSumViewed) := by
  unfold State.reviewCongestion; simp only; split
  · next same => exact same.symm
  · rfl

/-- CONGESTION is set exactly where its flag changes (R30). -/
theorem State.reviewCongestion_partNotices (s : State) :
    s.reviewCongestion.partNotices
      = s.partNotices ||| if s.reviewCongestion.congested = s.congested then 0 else 1 := by
  rw [State.reviewCongestion_congested]
  unfold State.reviewCongestion; simp only; split
  · simp
  · rfl

/-- ATTN is judged afresh where the congested flag changes (R182). -/
theorem State.reviewCongestion_attn (s : State) :
    s.reviewCongestion.attn
      = if s.reviewCongestion.congested = s.congested then s.attn else s.reviewCongestion.enabledMember := by
  rw [State.reviewCongestion_congested]
  unfold State.reviewCongestion; simp only; split <;> rfl

theorem State.reviewCongestion_unchanged {s : State} (same : s.reviewCongestion.congested = s.congested) :
    s.reviewCongestion = s := by
  rw [State.reviewCongestion_congested] at same
  simp [State.reviewCongestion, same]

/-! ### The whole recompute -/

theorem Session.sameButBudget.state {x y : Session} (h : x.sameButBudget y) : y.state = x.state := by
  unfold Session.sameButBudget at h; rw [h]

theorem Session.sameButBudget.config {x y : Session} (h : x.sameButBudget y) : y.config = x.config := by
  unfold Session.sameButBudget at h; rw [h]

theorem State.BudgetOnly.ladders {s t : State} (h : s.BudgetOnly t) : t.ladders = s.ladders := by
  unfold State.BudgetOnly at h; rw [h]; rfl

/-- Step 1: U from the capacity estimate as it stands (R20). -/
def State.budgeted (s : State) : State :=
  { s with usable := usableBudget s.meter.capacity s.params.safety s.params.headroom }

@[simp] theorem State.budgeted_session (s : State) (i : SessionId) : s.budgeted.session i = s.session i := rfl
@[simp] theorem State.budgeted_parkingInForce (s : State) : s.budgeted.parkingInForce = s.parkingInForce := rfl
@[simp] theorem State.budgeted_congested (s : State) : s.budgeted.congested = s.congested := rfl
@[simp] theorem State.budgeted_partNotices (s : State) : s.budgeted.partNotices = s.partNotices := rfl
@[simp] theorem State.budgeted_attn (s : State) : s.budgeted.attn = s.attn := rfl

theorem State.recompute_eq (s : State) : s.recompute = s.budgeted.reviewParking.giveShares.reviewCongestion := rfl

theorem State.recompute_state (s : State) (i : SessionId) : (s.recompute.session i).state = (s.session i).state :=
  (s.recompute_session i).state

theorem State.recompute_config (s : State) (i : SessionId) : (s.recompute.session i).config = (s.session i).config :=
  (s.recompute_session i).config

theorem State.recompute_ladders (s : State) : s.recompute.ladders = s.ladders :=
  s.recompute_frame.ladders

theorem State.recompute_parked (s : State) (i : SessionId) :
    (s.recompute.session i).parked = (s.budgeted.reviewParking.session i).parked := by
  rw [State.recompute_eq, State.reviewCongestion_session, State.giveShares_session]

theorem State.recompute_parkingInForce (s : State) :
    s.recompute.parkingInForce = s.budgeted.reviewParking.parkingInForce := by
  simp [State.recompute_eq]

theorem State.recompute_congested (s : State) :
    s.recompute.congested = decide (s.recompute.usable < s.recompute.floorSumViewed) := by
  rw [State.recompute_eq]
  generalize s.budgeted.reviewParking.giveShares = g
  have sums : g.reviewCongestion.floorSumViewed = g.floorSumViewed :=
    State.floorSumViewed_congr g.reviewCongestion_ladders fun i => by simp [State.reviewCongestion_session]
  rw [sums, State.reviewCongestion_usable, State.reviewCongestion_congested]

theorem State.recompute_share (s : State) (i : SessionId) :
    (s.recompute.session i).share = s.recompute.shareOf i := by
  rw [State.recompute_eq]
  generalize s.budgeted.reviewParking = p
  have sums : p.shareOf i = p.giveShares.reviewCongestion.shareOf i :=
    State.shareOf_congr (by simp) (by simp)
      (fun k => by simp [State.reviewCongestion_session, State.giveShares_session]) i
  rw [← sums, State.reviewCongestion_session, State.giveShares_session]

/-- No cause of a recompute is left after one (R20, R24, R30). -/
theorem State.recompute_budgetCurrent (s : State) : s.recompute.BudgetCurrent := by
  obtain ⟨params, meter⟩ := State.link_eq_iff.mp s.recompute_link
  refine ⟨?_, s.recompute_share, s.recompute_congested⟩
  rw [s.recompute_usable, params, meter]

/-- P_all depends on every session's state and ladder slot, and on the ladders (R23). -/
theorem State.floorSumAll_congr {s t : State} (ladders : s.ladders = t.ladders)
    (sessions : ∀ i, (s.session i).state = (t.session i).state ∧ (s.session i).config = (t.session i).config) :
    s.floorSumAll = t.floorSumAll := by
  have started : s.isStarted = t.isStarted := by funext k; simp [State.isStarted, sessions k]
  have floors : s.floorOf = t.floorOf := by
    funext k; simp [State.floorOf, State.ladderOf, State.ladder, ladders, sessions k]
  unfold State.floorSumAll
  rw [started, floors]

theorem State.recompute_floorSumAll (s : State) : s.recompute.floorSumAll = s.budgeted.floorSumAll :=
  State.floorSumAll_congr s.recompute_ladders fun i => ⟨s.recompute_state i, s.recompute_config i⟩

/-- PARKING and CONGESTION exactly where their flags change (R25, R27, R30). -/
theorem State.recompute_partNotices (s : State) :
    s.recompute.partNotices = (s.partNotices ||| if s.recompute.parkingInForce = s.parkingInForce then 0 else 2)
      ||| if s.recompute.congested = s.congested then 0 else 1 := by
  rw [State.recompute_parkingInForce, State.recompute_eq, State.reviewCongestion_partNotices]
  rw [State.giveShares_partNotices, State.reviewParking_partNotices, State.giveShares_congested,
    State.reviewParking_congested, State.budgeted_partNotices, State.budgeted_parkingInForce, State.budgeted_congested]

/-- A recompute, as the relation that the statements speak of. -/
theorem State.recompute_recomputed (s : State) : s.Recomputed (fun k => (s.session k).parked) s.recompute := by
  have total : ((allSessions.filter fun k => (s.recompute.session k).state.started).map
      fun k => (s.recompute.ladderOf k).bitrate 0).sum = s.budgeted.floorSumAll := s.recompute_floorSumAll
  have usable : s.recompute.usable = s.budgeted.usable := s.recompute_usable
  have background (k : SessionId) : ((s.recompute.session k).state.started
      && (s.recompute.session k).config.sessionClass == .background)
      = ((s.session k).state.started && (s.session k).isBackground) := by
    rw [s.recompute_state, s.recompute_config]; rfl
  have must : (s.parkingInForce = false
      ∧ (∃ k, ((s.session k).state.started && (s.session k).isBackground) = true ∧ (s.session k).parked = false)
      ∧ s.budgeted.usable < s.budgeted.floorSumAll) ↔ s.budgeted.mustPark = true := by
    rw [State.mustPark_iff]
    simp only [Bool.and_eq_true, and_assoc, and_comm (a := Session.isBackground _ = true), State.budgeted_session,
      State.budgeted_parkingInForce]
  have may : (s.parkingInForce = true ∧ s.budgeted.floorSumAll ≤ s.budgeted.usable * 7 / 8)
      ↔ s.budgeted.mayUnpark = true := s.budgeted.mayUnpark_iff.symm
  refine ⟨s.recompute_budgetCurrent, ?_, s.recompute_partNotices⟩
  simp only [total, usable, background, must, may, s.recompute_parkingInForce, s.recompute_parked]
  obtain ⟨yes, eq⟩ | ⟨no, yes, eq⟩ | ⟨no, noAgain, eq⟩ := s.budgeted.reviewParking_cases
  · rw [if_pos yes, eq]
    refine ⟨rfl, fun k => ?_⟩
    rw [State.park_session, State.budgeted_session]
    cases (s.session k).state.started && (s.session k).isBackground <;> rfl
  · rw [if_neg (by simp [no]), if_pos yes, eq]
    exact ⟨rfl, fun k => by rw [State.unpark_session]⟩
  · rw [if_neg (by simp [no]), if_neg (by simp [noAgain]), eq]
    exact ⟨rfl, fun _ => rfl⟩

/-- The session records do not count for ATTN (R182). -/
theorem State.enabledMember_sessions (s : State) (sessions : Vector Session 6) :
    ({ s with sessions := sessions } : State).enabledMember = s.enabledMember := rfl

/-- ATTN follows a recompute (R182). -/
theorem State.recompute_attnFollows (s : State) : s.AttnFollows s.recompute := by
  unfold State.AttnFollows
  rw [State.recompute_parkingInForce, State.recompute_eq, State.reviewCongestion_attn, State.giveShares_congested,
    State.reviewParking_congested, State.budgeted_congested]
  by_cases congested : s.budgeted.reviewParking.giveShares.reviewCongestion.congested = s.congested
  · have same : s.budgeted.reviewParking.giveShares.reviewCongestion = s.budgeted.reviewParking.giveShares :=
      State.reviewCongestion_unchanged (by simpa using congested)
    have judged : s.budgeted.reviewParking.giveShares.enabledMember = s.budgeted.reviewParking.enabledMember := by
      rw [State.giveShares_frame, State.enabledMember_sessions]
    rw [if_pos congested, State.giveShares_attn, State.reviewParking_attn, State.budgeted_parkingInForce, State.budgeted_attn]
    by_cases parking : s.budgeted.reviewParking.parkingInForce = s.parkingInForce
    · rw [if_pos parking, if_pos ⟨parking, congested⟩]
    · rw [if_neg parking, if_neg fun both => parking both.1, same, judged]
  · rw [if_neg congested, if_neg fun both => congested both.2]

/-! ### The relation, on states that agree in what it reads -/

/-- Two states agree in what `State.Recomputed` reads of the state it ends in. -/
def State.BudgetAgrees (t u : State) : Prop :=
  u.usable = t.usable ∧ u.meter.capacity = t.meter.capacity ∧ u.params = t.params ∧ u.sessions = t.sessions
    ∧ u.ladders = t.ladders ∧ u.parkingInForce = t.parkingInForce ∧ u.congested = t.congested
    ∧ u.partNotices = t.partNotices

/-- What of the state before the cause a recompute is compared with. -/
def State.FlagsAgree (s r : State) : Prop :=
  r.parkingInForce = s.parkingInForce ∧ r.congested = s.congested ∧ r.partNotices = s.partNotices

theorem State.BudgetCurrent.congr {t u : State} (agrees : t.BudgetAgrees u) (current : t.BudgetCurrent) : u.BudgetCurrent := by
  obtain ⟨usable, capacity, params, sessions, ladders, -, congested, -⟩ := agrees
  obtain ⟨usableIs, shares, congestedIs⟩ := current
  have session (i : SessionId) : u.session i = t.session i := by simp [State.session, sessions]
  have share (i : SessionId) : u.shareOf i = t.shareOf i :=
    State.shareOf_congr usable ladders (fun k => by simp [session]) i
  have viewed : u.floorSumViewed = t.floorSumViewed := State.floorSumViewed_congr ladders fun k => by simp [session]
  refine ⟨?_, fun i => ?_, ?_⟩
  · rw [usable, usableIs, capacity, params]
  · rw [session, share, shares]
  · rw [congested, congestedIs, usable, viewed]

theorem State.Recomputed.congr {parked : SessionId → Bool} {s r t u : State} (flags : s.FlagsAgree r)
    (agrees : t.BudgetAgrees u) (h : s.Recomputed parked t) : r.Recomputed parked u := by
  obtain ⟨current, parking, notices⟩ := h
  refine ⟨current.congr agrees, ?_⟩
  obtain ⟨usable, -, -, sessions, ladders, parkingInForce, congested, partNotices⟩ := agrees
  obtain ⟨parkingBefore, congestedBefore, noticesBefore⟩ := flags
  have session (k : SessionId) : u.session k = t.session k := by simp [State.session, sessions]
  have ladder (k : SessionId) : u.ladderOf k = t.ladderOf k := by simp [State.ladderOf, State.ladder, ladders, session]
  simp only [session, ladder, usable, parkingInForce, congested, partNotices, parkingBefore, congestedBefore, noticesBefore]
  exact ⟨parking, notices⟩

end Sys2Proof.Machine
end

