-- ==== Sys2Proof/Proofs/LinkMeter.lean ====
section
/-! PROOFS. What WINDOW_EXPIRY, TAKE, PAUSE and RESUME do (R4–R8, R10, R11, R128, R137). -/

open Sys2Proof Sys2Proof.Machine

namespace Sys2Proof.Machine

/-! ### The Link Meter replaced -/

/-- The state with another Link Meter. -/
def State.withMeter (s : State) (m : Meter) : State := { s with meter := m }

theorem State.BudgetOnly.withMeter {s t : State} (m : Meter) (h : s.BudgetOnly t) :
    (s.withMeter m).BudgetOnly (t.withMeter m) :=
  congrArg (fun u : State => u.withMeter m) h

@[simp] theorem State.withMeter_usable (s : State) (m : Meter) : (s.withMeter m).usable = s.usable := rfl

theorem State.withMeter_budgetAgrees {t : State} {m : Meter} (same : m.capacity = t.meter.capacity) :
    t.BudgetAgrees (t.withMeter m) :=
  ⟨rfl, same, rfl, rfl, rfl, rfl, rfl, rfl⟩

/-- The Link Meter does not count for ATTN, before a recompute or after it (R182). -/
theorem State.AttnFollows.withMeter {s t : State} {m m' : Meter} (h : (s.withMeter m).AttnFollows t) :
    s.AttnFollows (t.withMeter m') := h

/-! ### A capacity estimate presented (R8, R22) -/

theorem State.present_unchanged {s : State} {m : Meter} (same : m.capacity = s.meter.capacity) :
    s.present m = s.withMeter m := by
  simp [State.present, State.recomputeIf, State.withMeter, same]

theorem State.present_changed {s : State} {m : Meter} (differs : m.capacity ≠ s.meter.capacity) :
    s.present m = (s.withMeter m).recompute := by
  simp [State.present, State.recomputeIf, State.withMeter, differs]

theorem State.present_session (s : State) (m : Meter) (i : SessionId) :
    (s.session i).sameButBudget ((s.present m).session i) := by
  unfold State.present
  exact State.recomputeIf_session { s with meter := m } _ i

/-! ### WINDOW_EXPIRY -/

theorem State.windowDue_iff (s : State) :
    s.windowDue = true ↔ s.occupied = true ∧ s.meter.windowLength ≤ s.meter.windowElapsed := by
  simp [State.windowDue]

theorem exec_windowExpiry_due {s : State} (running : s.inReset = false) (due : s.windowDue = true) :
    exec .windowExpiry s = .next s.expireWindow :=
  (ownEvent_running _ running).trans (by rw [if_pos due])

theorem exec_windowExpiry_early {s : State} (running : s.inReset = false) (early : ¬s.windowDue = true) :
    exec .windowExpiry s = .next s :=
  (ownEvent_running _ running).trans (by rw [if_neg early])

/-- A thin window is counted and a new one opened (R5, R2). -/
theorem State.expireWindow_thin {s : State} (thin : s.meter.windowBytes < s.params.thinThreshold) :
    s.expireWindow = { s with meter := s.meter.thin.openWindow s.params.windowLength } := by
  simp [State.expireWindow, Meter.isThin, thin]

/-- The Link Meter after a window that yields a sample (R6, R7, R8, R2). -/
def State.sampled (s : State) : Meter := s.meter.sample.openWindow s.params.windowLength

/-- Another window presents the estimates its sample makes, and a new one opens (R4, R6). -/
theorem State.expireWindow_sample {s : State} (enough : s.params.thinThreshold ≤ s.meter.windowBytes) :
    s.expireWindow = (s.present s.meter.sample).withMeter s.sampled := by
  obtain ⟨params, meter⟩ := Prod.mk.inj (s.present_link s.meter.sample)
  simp [State.expireWindow, Meter.isThin, Nat.not_lt.mpr enough, params, meter, State.sampled, State.withMeter]

theorem sampleOf_eq (bytes length : Nat) : sampleOf bytes length = min 1000000 (bytes * 8 / length) :=
  Nat.max_eq_right (Nat.zero_le _)

/-- An estimate's move, with the distance as a signed number (R7). -/
theorem moveToward_eq (weight estimate sample : Nat) :
    (moveToward weight estimate sample : Int)
      = max 64 (min 1000000 ((estimate : Int) + ((sample : Int) - estimate).tdiv weight)) := by
  unfold moveToward clamp maxRate
  generalize (estimate : Int) + ((sample : Int) - estimate).tdiv weight = moved
  omega

/-- What may differ after a window that yields a sample (R8, R21). -/
theorem State.expireWindow_sample_frame (s : State) :
    (s.withMeter s.sampled).BudgetOnly ((s.present s.meter.sample).withMeter s.sampled) :=
  (s.present_frame s.meter.sample).withMeter s.sampled

/-- One recompute exactly where the sample has moved C (R8, R22). -/
theorem State.sampled_budget (s : State) :
    if s.sampled.capacity = s.meter.capacity then
      (s.present s.meter.sample).withMeter s.sampled = s.withMeter s.sampled
    else
      s.Recomputed (fun k => (s.session k).parked) ((s.present s.meter.sample).withMeter s.sampled) ∧
      s.AttnFollows ((s.present s.meter.sample).withMeter s.sampled) ∧
      ((s.present s.meter.sample).withMeter s.sampled).usable
        = s.sampled.capacity * s.params.safety / 256 - s.params.headroom := by
  split
  · next same =>
    rw [State.present_unchanged (m := s.meter.sample) same]
    rfl
  · next differs =>
    rw [State.present_changed (m := s.meter.sample) differs]
    have capacity : s.sampled.capacity = (s.withMeter s.meter.sample).recompute.meter.capacity := by
      rw [(State.link_eq_iff.mp (s.withMeter s.meter.sample).recompute_link).2]
      rfl
    have recomputed := (s.withMeter s.meter.sample).recompute_recomputed
    refine ⟨recomputed.congr ⟨rfl, rfl, rfl⟩ (State.withMeter_budgetAgrees capacity),
      (State.recompute_attnFollows _).withMeter, ?_⟩
    rw [State.withMeter_usable, State.recompute_usable]
    rfl

/-! ### TAKE -/

theorem exec_take_cancel {s : State} {tag : Nat} {rest : List Nat} (running : s.inReset = false)
    (cancels : s.cancelList = tag :: rest) :
    exec .take s = .next ({ s with cancelList := rest }.answerFetch (.cancel tag)) := by
  show execTake s = _
  rw [execTake, takeRecord_running _ running]
  simp only [cancels]

theorem exec_take_nothing {s : State} (running : s.inReset = false) (noCancel : s.cancelList = [])
    (noOrder : s.orderQueue = []) : exec .take s = .next (s.answerFetch .nothing) := by
  show execTake s = _
  rw [execTake, takeRecord_running _ running]
  simp only [noCancel, noOrder]

theorem exec_take_order {s : State} {j : SlotId} {rest : List SlotId} (running : s.inReset = false)
    (noCancel : s.cancelList = []) (orders : s.orderQueue = j :: rest) : exec .take s = .next (s.collect j rest) := by
  show execTake s = _
  rw [execTake, takeRecord_running _ running]
  simp only [noCancel, orders]

/-- What TAKE makes of the order queue's head (R128, R135). -/
theorem State.collect_queued {s : State} {j : SlotId} {rest : List SlotId} {tag : Nat} {r : EntryRef} {e : Entry}
    (queued : s.slot j = .queued tag r) (named : s.entry? r = some e) :
    s.collect j rest
      = (({ s.setSlot j (.taken tag r 0 s.params.stallLimit) with orderQueue := rest }.updateEntry r fun e =>
          { e with state := .active, tag := some tag }).answerFetch
        (.order tag r.session e.issue.locator r.segment e.issue.expected e.issue.bitrate)) := by
  simp [State.collect, queued, State.keptCopies, named, orderOf]

/-- An entry changed where it stands changes its ledger alone. -/
theorem State.updateEntry_session (s : State) (r : EntryRef) (k : SessionId) (f : Entry → Entry) :
    (s.updateEntry r f).session k
      = if k = r.session then { s.session k with ledger := updateLedger r.segment f (s.session k).ledger }
        else s.session k := by
  unfold State.updateEntry
  by_cases same : k = r.session
  · subst same; simp
  · simp [same]

/-- The entry found under a segment number has that number. -/
theorem State.entry?_segment {s : State} {r : EntryRef} {e : Entry} (named : s.entry? r = some e) : e.segment = r.segment := by
  simpa using List.find?_some named

/-! ### PAUSE -/

/-- Nothing is occupied while the link is paused (R1). -/
theorem State.occupied_of_paused {s : State} (paused : s.meter.paused = true) : s.occupied = false := by
  simp [State.occupied, paused]

theorem exec_pause {s : State} (running : s.inReset = false) : exec .pause s = .next (s.pauseLink.answerFetch .ack) :=
  takeRecord_running (fun s => s.pauseLink.answerFetch .ack) running

theorem exec_resume {s : State} (running : s.inReset = false) :
    exec .resume s = .next ({ s with meter := { s.meter with paused := false } }.answerFetch .ack) := by
  show execResume s = _
  rw [execResume, takeRecord_running _ running]

/-- PAUSE sets the flag, and a window at its length stops one step short of it (R10, R11). -/
theorem State.pauseLink_eq (s : State) :
    s.pauseLink = { s with meter := { s.meter with
      paused := true
      windowElapsed := if s.occupied then min s.meter.windowElapsed (s.meter.windowLength - 1)
        else s.meter.windowElapsed } } := by
  unfold State.pauseLink
  split
  · next paused => 
    rw [State.occupied_of_paused paused]
    exact congrArg (fun flag => { s with meter := { s.meter with paused := flag } }) paused
  · next unpaused =>
    have ends : ({ s with meter := { s.meter with paused := true } } : State).occupied = false :=
      State.occupied_of_paused rfl
    unfold State.rereadOccupancy
    rw [ends]
    cases s.occupied <;> rfl

end Sys2Proof.Machine

namespace Sys2Proof.Proofs

/-- Settles O13: the window is due, and thin. -/
theorem thinWindowExpires : Obligations.ThinWindowExpires := by
  intro s running occupied elapsed thin
  rw [exec_windowExpiry_due running (s.windowDue_iff.mpr ⟨occupied, elapsed⟩), State.expireWindow_thin thin]
  rfl

/-- Settles O14: the estimates are presented, and a recompute follows exactly where C differs. -/
theorem windowYieldsASample : Obligations.WindowYieldsASample := by
  intro s running
  refine ⟨fun early => exec_windowExpiry_early running (mt s.windowDue_iff.mp early), fun occupied elapsed enough => ?_⟩
  have expired := exec_windowExpiry_due running (s.windowDue_iff.mpr ⟨occupied, elapsed⟩)
  rw [State.expireWindow_sample enough] at expired
  have frame := s.expireWindow_sample_frame
  have session (i : SessionId) := s.present_session s.meter.sample i
  have budget := s.sampled_budget
  generalize s.present s.meter.sample = presented at expired frame session budget
  refine ⟨_, expired, congrArg some (sampleOf_eq ..), fun sample mem => ?_, rfl, frame, session, budget⟩
  cases Option.mem_some.mp mem
  exact ⟨moveToward_eq .., moveToward_eq ..⟩

/-- Settles O31: TAKE by the two queues, PAUSE and RESUME by their flag. -/
theorem takePauseAndResumeAreAnswered : Obligations.TakePauseAndResumeAreAnswered := by
  refine ⟨fun s running => ⟨?cancel, ?nothing, ?order⟩, fun s running => ⟨?pause, ?resume⟩⟩
  case cancel =>
    intro tag rest cancels
    exact exec_take_cancel running cancels
  case nothing =>
    intro noCancel noOrder
    exact exec_take_nothing running noCancel noOrder
  case order =>
    intro j rest tag r e noCancel orders queued named
    have taken := exec_take_order running noCancel orders
    rw [State.collect_queued queued named] at taken
    refine ⟨_, taken, ?_, fun k => s.setSlot_slot j k _, fun k => s.updateEntry_session r k _⟩
    rw [State.entry?_segment named]
    rfl
  case pause =>
    rw [exec_pause running, State.pauseLink_eq]
    rfl
  case resume => exact exec_resume running

end Sys2Proof.Proofs
end

