-- ==== Sys2Proof/Proofs/LinkRequests.lean ====
section
/-! PROOFS. The bytes of a layout (chapter 11, R185), and what SET_LINK and READ_LINK do (R15–R19, R176). -/

open Sys2Proof Sys2Proof.Machine

namespace Sys2Proof

/-! ### Numbers as bytes, most significant first (R185) -/

theorem beNat_append_byte (bytes : List Byte) (b : Byte) : beNat (bytes ++ [b]) = beNat bytes * 256 + b.toNat := by
  simp [beNat, List.foldl_append]

/-- Reading on from a number adds at most as many places as there are bytes. -/
theorem foldl_bytes_lt (bytes : List Byte) (n : Nat) :
    bytes.foldl (fun n b => n * 256 + b.toNat) n < (n + 1) * 256 ^ bytes.length := by
  induction bytes generalizing n with
  | nil => simp only [List.foldl_nil, List.length_nil, Nat.pow_zero]; omega
  | cons b bytes ih =>
    have byte : n * 256 + b.toNat + 1 ≤ (n + 1) * 256 := by have := b.isLt; omega
    calc bytes.foldl (fun n b => n * 256 + b.toNat) (n * 256 + b.toNat)
        < (n * 256 + b.toNat + 1) * 256 ^ bytes.length := ih _
      _ ≤ (n + 1) * 256 * 256 ^ bytes.length := Nat.mul_le_mul_right _ byte
      _ = (n + 1) * 256 ^ (bytes.length + 1) := by rw [Nat.pow_succ', Nat.mul_assoc]

theorem beNat_lt (bytes : List Byte) : beNat bytes < 256 ^ bytes.length := by
  have bound := foldl_bytes_lt bytes 0
  rwa [Nat.zero_add, Nat.one_mul] at bound

/-- A field of `size` bytes stays below `256 ^ size`. -/
theorem beField_lt (bytes : List Byte) (offset size : Nat) : beField bytes offset size < 256 ^ size :=
  Nat.lt_of_lt_of_le (beNat_lt _) (Nat.pow_le_pow_right (by decide) (List.length_take_le ..))

@[simp] theorem beBytes_length (k n : Nat) : (beBytes k n).length = k := by
  induction k generalizing n with
  | zero => rfl
  | succ k ih => simp [beBytes, ih]

theorem beNat_beBytes (k n : Nat) : beNat (beBytes k n) = n % 256 ^ k := by
  induction k generalizing n with
  | zero => simp [beBytes, beNat, Nat.mod_one]
  | succ k ih =>
    have split := Nat.mod_mul (x := n) (a := 256) (b := 256 ^ k)
    have power : 256 ^ (k + 1) = 256 * 256 ^ k := Nat.pow_succ'
    rw [beBytes, beNat_append_byte, ih, BitVec.toNat_ofNat, power, split]
    omega

/-! ### Fields one after the other -/

/-- The bytes of some fields, each a size and a number, one after the other. -/
def layout (fields : List (Nat × Nat)) : List Byte := (fields.map fun field => beBytes field.1 field.2).flatten

/-- The same fields with their places: offset, size, number. -/
def placed : Nat → List (Nat × Nat) → List (Nat × Nat × Nat)
  | _, [] => []
  | offset, (size, n) :: fields => (offset, size, n) :: placed (offset + size) fields

@[simp] theorem layout_cons (field : Nat × Nat) (fields : List (Nat × Nat)) :
    layout (field :: fields) = beBytes field.1 field.2 ++ layout fields := rfl

theorem layout_foldl (fields : List (Nat × Nat)) (before : List Byte) :
    fields.foldl (fun bytes field => bytes ++ beBytes field.1 field.2) before = before ++ layout fields := by
  induction fields generalizing before with
  | nil => exact (List.append_nil _).symm
  | cons field fields ih => rw [List.foldl_cons, ih, layout_cons, List.append_assoc]

theorem layout_length (fields : List (Nat × Nat)) : (layout fields).length = (fields.map Prod.fst).sum := by
  induction fields with
  | nil => rfl
  | cons field fields ih => simp [ih]

/-- What stands between other bytes is read at their length. -/
theorem beField_between (before bytes after : List Byte) :
    beField (before ++ (bytes ++ after)) before.length bytes.length = beNat bytes := by
  simp [beField]

/-- Each field of a layout is read at its place, whatever stands before and after. -/
theorem beField_placed (fields : List (Nat × Nat)) (before after : List Byte) :
    ∀ row ∈ placed before.length fields,
      beField (before ++ (layout fields ++ after)) row.1 row.2.1 = row.2.2 % 256 ^ row.2.1 := by
  induction fields generalizing before with
  | nil => intro row mem; cases mem
  | cons field fields ih =>
    obtain ⟨size, n⟩ := field
    intro row mem
    rw [layout_cons, List.append_assoc]
    obtain rfl | later := List.mem_cons.mp mem
    · have here := beField_between before (beBytes size n) (layout fields ++ after)
      rwa [beBytes_length, beNat_beBytes] at here
    · have there := ih (before ++ beBytes size n) row (by simpa using later)
      rwa [List.append_assoc] at there

end Sys2Proof

namespace Sys2Proof.Machine

/-- Four flags, from bit 0 up. -/
theorem flagByte_four (a b c d : Bool) :
    (flagByte [a, b, c, d]).getLsbD 0 = a ∧ (flagByte [a, b, c, d]).getLsbD 1 = b ∧ (flagByte [a, b, c, d]).getLsbD 2 = c
      ∧ (flagByte [a, b, c, d]).getLsbD 3 = d ∧ (flagByte [a, b, c, d]).toNat < 16 := by
  revert a b c d; decide

/-! ### READ_LINK -/

/-- The numbers of a READ-LINK response, in order, each with its size (11.2). -/
def State.linkFields (s : State) : List (Nat × Nat) :=
  [(2, s.params.windowLength), (2, s.params.thinThreshold), (4, s.params.initialEstimate),
    (4, s.meter.fast), (4, s.meter.slow), (4, s.meter.capacity), (4, s.meter.lastSample.getD 0),
    (2, s.meter.samples), (2, s.meter.halvings), (2, s.meter.thinWindows),
    (2, s.meter.windowLength), (2, s.meter.windowElapsed), (4, s.meter.windowBytes),
    (2, s.params.safety), (4, s.params.headroom), (4, s.usable), (2, s.params.stallLimit), (1, s.tagCounter),
    (1, s.countSlots fun | .free => true | _ => false), (1, s.countSlots fun | .queued _ _ => true | _ => false),
    (1, s.countSlots fun | .taken _ _ _ _ => true | _ => false),
    (1, s.countSlots fun | .cancelling _ _ _ _ => true | _ => false),
    (1, s.cancelList.length), (2, s.params.retryInterval), (2, s.params.holdTimeout)]

/-- The flags of a READ-LINK response (11.2). -/
def State.linkFlags (s : State) : Byte := flagByte [s.meter.paused, s.occupied, s.congested, s.parkingInForce]

theorem State.linkBytes_eq (s : State) : s.linkBytes = layout s.linkFields ++ [s.linkFlags, 0] := by
  rw [← List.nil_append (layout s.linkFields), ← layout_foldl]
  rfl

theorem State.linkFields_length (s : State) : (layout s.linkFields).length = 60 := by
  simp [layout_length, State.linkFields]

theorem exec_readLink {s : State} (running : s.inReset = false) :
    exec (.readLink []) s = .next (s.respondWith s.linkBytes) :=
  takeFrame_running (fun s => s.respondWith s.linkBytes) running rfl

/-! ### SET_LINK -/

theorem exec_setLink {payload : List Byte} {s : State} (running : s.inReset = false) (length : payload.length = 20) :
    exec (.setLink payload) s = .next
      ((s.storeParams (linkParamsCarried payload).clamped).respond
        (acceptedStatus (countChanged (linkParamsCarried payload).clamped.values (linkParamsCarried payload).values))) :=
  takeFrame_running
    (fun s => (s.storeParams (linkParamsCarried payload).clamped).respond
      (acceptedStatus (countChanged (linkParamsCarried payload).clamped.values (linkParamsCarried payload).values)))
    running length

theorem countChanged_cons (x y : Nat) (xs ys : List Nat) :
    countChanged (x :: xs) (y :: ys) = (if x = y then 0 else 1) + countChanged xs ys := by
  by_cases same : x = y
  · simp [countChanged, same]
  · simp [countChanged, same, Nat.add_comm]

/-- A threshold of two bytes is in range as carried (R15). -/
theorem clamped_thinThreshold (payload : List Byte) :
    (linkParamsCarried payload).clamped.thinThreshold = beField payload 2 2 := by
  have fits := beField_lt payload 2 2
  simp only [linkParamsCarried, LinkParams.clamped, clamp]
  omega

/-- The headroom has no lower bound to reach (R19). -/
theorem clamped_headroom (payload : List Byte) :
    (linkParamsCarried payload).clamped.headroom = min 100000 (beField payload 10 4) :=
  Nat.max_eq_right (Nat.zero_le _)

/-- What a SET-LINK payload stores (R15, R19, R134, R142). -/
theorem clamped_linkParamsCarried (payload : List Byte) :
    (linkParamsCarried payload).clamped =
      { windowLength := max 20 (min 1000 (beField payload 0 2))
        thinThreshold := beField payload 2 2
        initialEstimate := max 64 (min 1000000 (beField payload 4 4))
        safety := max 128 (min 256 (beField payload 8 2))
        headroom := min 100000 (beField payload 10 4)
        stallLimit := max 200 (min 10000 (beField payload 14 2))
        retryInterval := max 50 (min 5000 (beField payload 16 2))
        holdTimeout := max 500 (min 60000 (beField payload 18 2)) } := by
  rw [← clamped_thinThreshold, ← clamped_headroom]
  rfl

/-- How many of its values a SET-LINK clamps: the thin threshold never is (R15, R176). -/
theorem countChanged_linkParams (payload : List Byte) {p : LinkParams} (stored : p = (linkParamsCarried payload).clamped) :
    countChanged p.values (linkParamsCarried payload).values
      = (if p.windowLength = beField payload 0 2 then 0 else 1)
        + (if p.initialEstimate = beField payload 4 4 then 0 else 1)
        + (if p.safety = beField payload 8 2 then 0 else 1)
        + (if p.headroom = beField payload 10 4 then 0 else 1)
        + (if p.stallLimit = beField payload 14 2 then 0 else 1)
        + (if p.retryInterval = beField payload 16 2 then 0 else 1)
        + (if p.holdTimeout = beField payload 18 2 then 0 else 1) := by
  have thin : p.thinThreshold = beField payload 2 2 := stored ▸ clamped_thinThreshold payload
  have none_left : countChanged [] [] = 0 := rfl
  simp only [LinkParams.values, linkParamsCarried, countChanged_cons, thin, if_true, none_left, Nat.add_zero, Nat.zero_add,
    Nat.add_assoc]

/-- The state with other link parameters. -/
def State.withParams (s : State) (p : LinkParams) : State := { s with params := p }

theorem State.storeParams_frame (s : State) (p : LinkParams) : (s.withParams p).BudgetOnly (s.storeParams p) :=
  State.recomputeIf_frame _ _

theorem State.storeParams_session (s : State) (p : LinkParams) (i : SessionId) :
    (s.session i).sameButBudget ((s.storeParams p).session i) := by
  unfold State.storeParams
  exact State.recomputeIf_session { s with params := p } _ i

theorem State.storeParams_params (s : State) (p : LinkParams) : (s.storeParams p).params = p :=
  (State.link_eq_iff.mp (s.storeParams_frame p).link).1

/-- One recompute exactly where the safety factor or the headroom changes (R19, R176). -/
theorem State.storeParams_budget (s : State) (p : LinkParams) :
    if p.safety = s.params.safety ∧ p.headroom = s.params.headroom then s.storeParams p = s.withParams p
    else s.Recomputed (fun k => (s.session k).parked) (s.storeParams p) ∧ s.AttnFollows (s.storeParams p) ∧
      (s.storeParams p).usable = s.meter.capacity * p.safety / 256 - p.headroom := by
  split
  · next same => simp [State.storeParams, State.recomputeIf, State.withParams, same]
  · next differs =>
    have stored : s.storeParams p = (s.withParams p).recompute := by
      have cause : (p.safety != s.params.safety || p.headroom != s.params.headroom) = true := by
        obtain safety | headroom := Decidable.not_and_iff_or_not.mp differs
        · simp [safety]
        · simp [headroom]
      simp only [State.storeParams, State.recomputeIf, cause, if_true, State.withParams]
    rw [stored]
    exact ⟨(s.withParams p).recompute_recomputed, (s.withParams p).recompute_attnFollows, State.recompute_usable _⟩

/-- A response does not count for the budget. -/
theorem State.respond_budgetAgrees (s : State) (status : Status) : s.BudgetAgrees (s.respond status) :=
  ⟨rfl, rfl, rfl, rfl, rfl, rfl, rfl, rfl⟩

theorem State.FlagsAgree.refl (s : State) : s.FlagsAgree s := ⟨rfl, rfl, rfl⟩

/-- A response does not count for ATTN (R182). -/
theorem State.AttnFollows.respond {s t : State} (h : s.AttnFollows t) (status : Status) : s.AttnFollows (t.respond status) := h

end Sys2Proof.Machine

namespace Sys2Proof.Proofs

/-- Settles O11: the response is a layout of 25 numbers, the flags and a 0. -/
theorem readLinkReturnsTheLink : Obligations.ReadLinkReturnsTheLink := by
  intro s running
  have bytes := s.linkBytes_eq
  have length := s.linkFields_length
  have flags : s.linkBytes.getD 60 0 = s.linkFlags := by
    rw [bytes, List.getD_eq_getElem?_getD, List.getElem?_append_right (by omega), length]; rfl
  obtain ⟨paused, occupied, congested, parking, below⟩ :=
    flagByte_four s.meter.paused s.occupied s.congested s.parkingInForce
  refine ⟨s.linkBytes, exec_readLink running, by rw [bytes]; simp [length], fun row mem => ?_, ?_⟩
  · have numbers := beField_placed s.linkFields [] [s.linkFlags, 0]
    have last : beField s.linkBytes 61 1 = 0 := by
      have zero := beField_between (layout s.linkFields ++ [s.linkFlags]) [0] []
      rw [List.append_assoc, List.length_append, length] at zero
      rwa [bytes]
    obtain number | padding := List.mem_append.mp (show row ∈ placed 0 s.linkFields ++ [(61, 1, 0)] from mem)
    · rw [bytes]
      exact numbers row number
    · rw [List.mem_singleton.mp padding]
      exact last
  · rw [flags]
    exact ⟨paused, occupied, congested, parking, below⟩

/-- Settles O10: the clamped values are stored, and a recompute follows where they matter to the budget. -/
theorem setLinkStoresClampedParameters : Obligations.SetLinkStoresClampedParameters := by
  intro payload s running length
  have answered := exec_setLink (payload := payload) running length
  have values := clamped_linkParamsCarried payload
  have count := countChanged_linkParams payload rfl
  generalize (linkParamsCarried payload).clamped = p at answered values count
  have params := s.storeParams_params p
  have frame := s.storeParams_frame p
  have session := s.storeParams_session p
  have budget := s.storeParams_budget p
  generalize s.storeParams p = stored at answered params frame session budget
  subst params
  refine ⟨_, answered, values, ⟨_, rfl, count⟩, ?_, session, ?_⟩
  · exact congrArg (fun t : State => t.respond _) frame
  · split at budget
    · next same =>
      exact (if_pos same).mpr (congrArg (fun t : State => t.respond _) budget)
    · next differs =>
      obtain ⟨recomputed, attn, usable⟩ := budget
      exact (if_neg differs).mpr
        ⟨recomputed.congr (.refl s) (stored.respond_budgetAgrees _), attn.respond _, usable⟩

end Sys2Proof.Proofs
end

