-- ==== Sys2Proof/Proofs/Idle.lean ====
section
/-! PROOFS. What the part does while no command waits: which events of its own are due, and one millisecond (logs 1 and 2;
R1, R4, R125, R135). -/

open Sys2Proof Sys2Proof.Machine

namespace Sys2Proof.Machine

/-! ### Watchdogs -/

theorem State.watchdogDue_iff (s : State) (j : SlotId) :
    s.watchdogDue j = true ↔ s.meter.paused = false ∧
      ((∃ tag r elapsed limit, s.slot j = .taken tag r elapsed limit ∧ limit ≤ elapsed) ∨
        ∃ tag back kept, s.slot j = .cancelling tag back kept true) := by
  unfold State.watchdogDue
  cases s.slot j with
  | free => simp
  | queued tag r => simp
  | taken tag r elapsed limit =>
    simp only [Bool.and_eq_true, Bool.not_eq_true', decide_eq_true_eq]
    refine and_congr_right fun _ => ⟨fun reached => .inl ⟨tag, r, elapsed, limit, rfl, reached⟩, fun due => ?_⟩
    obtain ⟨_, _, _, _, same, reached⟩ | ⟨_, _, _, same⟩ := due
    · cases same; exact reached
    · cases same
  | cancelling tag back kept owed =>
    simp only [Bool.and_eq_true, Bool.not_eq_true']
    refine and_congr_right fun _ => ⟨fun owes => .inr ⟨tag, back, kept, by rw [owes]⟩, fun due => ?_⟩
    obtain ⟨_, _, _, _, same, _⟩ | ⟨_, _, _, same⟩ := due
    · cases same
    · cases same; rfl

/-! ### Grants (R124, R125, R126) -/

theorem Entry.isDue_iff (now : Nat) (e : Entry) : e.isDue now = true ↔ e.DueAt now := by
  simp [Entry.isDue, Entry.isWaiting]

theorem State.dueEntry_isSome_iff (s : State) (i : SessionId) :
    (s.dueEntry i).isSome = true ↔ ∃ e ∈ (s.session i).ledger, e.DueAt s.now := by
  simp only [State.dueEntry, List.find?_isSome, Entry.isDue_iff]

theorem State.hasRoom_iff (s : State) (i : SessionId) :
    s.hasRoom i = true ↔ (s.session i).gateOpen = true ∧ (s.session i).ledger.length < (s.session i).config.depthLimit ∧
      0 < s.poolFree ∧ s.reserveFor i < s.poolFree := by
  simp [State.hasRoom, and_assoc]

theorem State.isCandidate_iff (s : State) (i : SessionId) : s.isCandidate i = true ↔ s.Candidate i := by
  have split : s.isCandidate i = true ↔ ((s.session i).state.started = true ∧ (s.session i).parked = false) ∧
      inFlightCount (s.session i).ledger < (s.session i).config.pipeline.depth ∧
      ((s.dueEntry i).isSome = true ∨ s.hasRoom i = true) := by
    simp [State.isCandidate, State.holdsShare, State.isStarted, and_assoc]
  rw [split, State.dueEntry_isSome_iff, State.hasRoom_iff, and_assoc]
  rfl

theorem mem_roundRobin : ∀ last i : SessionId, i ∈ roundRobin last := by decide

/-- The arbiter chooses where there is a candidate. -/
theorem State.chosen_isSome_iff (s : State) : s.chosen.isSome = true ↔ ∃ i, s.Candidate i := by
  have candidates (i : SessionId) : i ∈ (roundRobin s.lastGranted).filter s.isCandidate ↔ s.Candidate i := by
    rw [List.mem_filter, State.isCandidate_iff, and_iff_right (mem_roundRobin _ i)]
  simp only [← candidates]
  unfold State.chosen
  simp only
  split
  · next i found => exact ⟨fun _ => ⟨i, List.mem_of_find?_eq_some found⟩, fun _ => rfl⟩
  · rw [List.isSome_head?]
    exact ⟨List.exists_mem_of_ne_nil _, fun ⟨_, mem⟩ => List.ne_nil_of_mem mem⟩

theorem State.freeSlot_isSome_iff (s : State) : s.freeSlot.isSome = true ↔ ∃ j, s.slot j = .free := by
  simp [State.freeSlot, List.find?_isSome, mem_allSlots]

theorem State.grantable_isSome_iff (s : State) :
    s.grantable.isSome = true ↔ (∃ j, s.slot j = .free) ∧ ∃ i, s.Candidate i := by
  rw [← State.freeSlot_isSome_iff, ← State.chosen_isSome_iff]
  unfold State.grantable
  cases s.freeSlot <;> cases s.chosen <;> simp

/-! ### The events that are due -/

theorem State.mem_dueEvents_iff (s : State) (e : Instr) : e ∈ s.dueEvents ↔ s.OwnEventDue e := by
  have parts : e ∈ s.dueEvents ↔ (s.windowDue = true ∧ e = .windowExpiry) ∨
      (∃ j, s.watchdogDue j = true ∧ .stallWatchdogExpiry j = e) ∨ (s.grantable.isSome = true ∧ e = .grant) := by
    simp [State.dueEvents, mem_allSlots]
  rw [parts]
  cases e with
  | windowExpiry => simpa [State.OwnEventDue] using s.windowDue_iff
  | stallWatchdogExpiry j => simpa [State.OwnEventDue] using s.watchdogDue_iff j
  | grant => simpa [State.OwnEventDue] using s.grantable_isSome_iff
  | _ => simp [State.OwnEventDue]

theorem State.dueEvents_nodup (s : State) : s.dueEvents.Nodup := by
  have watchdogs : ((allSlots.filter s.watchdogDue).map Instr.stallWatchdogExpiry).Nodup :=
    (List.Pairwise.filter _ (by decide : allSlots.Nodup)).map _ fun _ _ differ same =>
      differ (Instr.stallWatchdogExpiry.inj same)
  have window : (if s.windowDue then [Instr.windowExpiry] else []).Nodup := by split <;> decide
  have grant : (if s.grantable.isSome then [Instr.grant] else []).Nodup := by split <;> decide
  refine List.nodup_append.mpr ⟨List.nodup_append.mpr ⟨window, watchdogs, ?_⟩, grant, ?_⟩
  · rintro e inWindow _ inWatchdogs rfl
    obtain ⟨j, -, rfl⟩ := List.mem_map.mp inWatchdogs
    split at inWindow <;> simp at inWindow
  · rintro e before _ inGrant rfl
    split at inGrant
    · cases List.mem_singleton.mp inGrant
      obtain inWindow | inWatchdogs := List.mem_append.mp before
      · split at inWindow <;> simp at inWindow
      · obtain ⟨j, -, same⟩ := List.mem_map.mp inWatchdogs
        cases same
    · cases inGrant

theorem pickEvent_mem {events : List Instr} (choice : Nat) (some_due : events ≠ []) : pickEvent choice events ∈ events := by
  have within : Config.tieBreak choice % events.length < events.length :=
    Nat.mod_lt _ (List.length_pos_iff.mpr some_due)
  rw [pickEvent, List.getD_eq_getElem?_getD, List.getElem?_eq_getElem within, Option.getD_some]
  exact List.getElem_mem _

/-! ### The step on an empty queue -/

theorem step_empty {s : State} (empty : s.pending = []) : step s = s.idle := by
  simp only [step, empty]

theorem State.idle_held {s : State} (low : s.inReset = true) : s.idle = .next s := by
  simp [State.idle, low]

theorem State.idle_tick {s : State} (running : s.inReset = false) (none_due : s.dueEvents = []) : s.idle = .next s.tick := by
  simp [State.idle, running, none_due]

theorem State.idle_one {s : State} {e : Instr} (running : s.inReset = false) (one : s.dueEvents = [e]) :
    s.idle = exec e s := by
  simp [State.idle, running, one]

theorem State.idle_several {s : State} {e₁ e₂ : Instr} {es : List Instr} (running : s.inReset = false)
    (several : s.dueEvents = e₁ :: e₂ :: es) :
    s.idle = exec (pickEvent s.openChoices s.dueEvents) { s with openChoices := s.openChoices + 1 } := by
  simp [State.idle, running, several]

/-- A millisecond advances the watchdogs unless the link is paused (R135). -/
theorem State.tick_slot (s : State) (j : SlotId) :
    s.tick.slot j = if s.meter.paused then s.slot j else (s.slot j).tick := by
  have same : (if s.occupied then { s with meter := { s.meter with windowElapsed := s.meter.windowElapsed + 1 } } else s).slot j
      = s.slot j := by
    split <;> rfl
  unfold State.tick
  show (if s.meter.paused then _ else State.mapSlots _ Slot.tick).slot j = _
  split
  · exact same
  · rw [State.mapSlots_slot, same]

end Sys2Proof.Machine

namespace Sys2Proof.Proofs

/-- Settles O2, by the events due: none, one, or several. -/
theorem idleTakesADueEventOrOneMillisecond : Obligations.IdleTakesADueEventOrOneMillisecond := by
  intro s empty
  rw [step_empty empty]
  refine ⟨State.idle_held, fun running => ?_⟩
  simp only [← s.mem_dueEvents_iff]
  have distinct := s.dueEvents_nodup
  refine ⟨fun e due only => ?one, fun e₁ e₂ due₁ due₂ differ => ?several, fun no_event => ?none⟩
  case one =>
    match events : s.dueEvents with
    | [] => rw [events] at due; cases due
    | [e'] =>
      rw [events] at due
      cases List.mem_singleton.mp due
      exact State.idle_one running events
    | a :: b :: _ =>
      rw [events] at only distinct
      have same : a = b := (only a (by simp)).trans (only b (by simp)).symm
      simp [same] at distinct
  case several =>
    match events : s.dueEvents with
    | [] => rw [events] at due₁; cases due₁
    | [e] =>
      rw [events, List.mem_singleton] at due₁ due₂
      exact absurd (due₁.trans due₂.symm) differ
    | _ :: _ :: _ =>
      rw [← events]
      exact ⟨_, pickEvent_mem _ (by simp [events]), State.idle_several running events⟩
  case none =>
    have none_due : s.dueEvents = [] := List.eq_nil_iff_forall_not_mem.mpr no_event
    refine ⟨_, State.idle_tick running none_due, s.tick_frame, fun j => ?_⟩
    rw [State.tick_slot]
    cases s.meter.paused <;> cases s.slot j <;> rfl

end Sys2Proof.Proofs
end

