-- ==== Sys2Proof/Proofs/Arrival.lean ====
section
/-! PROOFS. What ARRIVAL credits, and when it abandons the fetch (R3, R80, R110–R112, R130). -/

open Sys2Proof Sys2Proof.Machine

namespace Sys2Proof.Machine

/-! ### Live tags (R118, R120) -/

/-- The search for a live tag finds the slot that holds it. -/
theorem State.slotOfTag_eq {s : State} {j : SlotId} {tag : Nat} (sound : s.TagsSound) (holds : (s.slot j).tag? = some tag) :
    s.slotOfTag tag = some j := by
  cases found : s.slotOfTag tag with
  | none => exact absurd holds (State.slotOfTag_none found j)
  | some k =>
    obtain ⟨-, one_slot, -⟩ := sound
    rw [one_slot j k tag holds (State.slotOfTag_some found)]

/-! ### Entries changed where they stand -/

/-- What is done to the entries of one segment number leaves the others as they are. -/
def onSegment (segment : Nat) (f : Entry → Entry) (e : Entry) : Entry := if e.segment = segment then f e else e

theorem updateLedger_eq (segment : Nat) (f : Entry → Entry) (ledger : List Entry) :
    updateLedger segment f ledger = ledger.map (onSegment segment f) := rfl

theorem onSegment_segment {segment : Nat} {f : Entry → Entry} (keeps : ∀ e, (f e).segment = e.segment) (e : Entry) :
    (onSegment segment f e).segment = e.segment := by
  unfold onSegment; split
  · exact keeps e
  · rfl

/-- Two changes of one entry, one after the other. -/
theorem updateLedger_updateLedger {segment : Nat} {f g : Entry → Entry} (keeps : ∀ e, (f e).segment = e.segment)
    (ledger : List Entry) :
    updateLedger segment g (updateLedger segment f ledger) = updateLedger segment (fun e => g (f e)) ledger := by
  simp only [updateLedger_eq, List.map_map]
  refine List.map_congr_left fun e _ => ?_
  by_cases same : e.segment = segment <;> simp [onSegment, same, keeps]

/-- The entry found after a change is the changed one. -/
theorem findEntry_updateLedger {segment : Nat} {f : Entry → Entry} (keeps : ∀ e, (f e).segment = e.segment)
    (ledger : List Entry) : findEntry (updateLedger segment f ledger) segment = (findEntry ledger segment).map f := by
  induction ledger with
  | nil => rfl
  | cons e ledger ih =>
    by_cases same : e.segment = segment
    · simp [findEntry, updateLedger, same, keeps]
    · simpa [findEntry, updateLedger, same] using ih

/-- Where the segment numbers rise strictly, each is that of one entry. -/
theorem entry_unique_of_segments {ledger : List Entry} (rising : (ledger.map (·.segment)).Pairwise (· < ·)) {e e' : Entry}
    (mem : e ∈ ledger) (mem' : e' ∈ ledger) (same : e'.segment = e.segment) : e' = e := by
  induction ledger with
  | nil => cases mem
  | cons a ledger ih =>
    obtain ⟨below, rest⟩ := List.pairwise_cons.mp rising
    have head_below {b : Entry} (later : b ∈ ledger) : a.segment < b.segment := below _ (List.mem_map_of_mem later)
    obtain rfl | later := List.mem_cons.mp mem
    · obtain rfl | later' := List.mem_cons.mp mem'
      · rfl
      · exact absurd same (Nat.ne_of_gt (head_below later'))
    · obtain rfl | later' := List.mem_cons.mp mem'
      · exact absurd same (Nat.ne_of_lt (head_below later))
      · exact ih rest later later'

/-- In a sound ledger a segment number is that of one entry (R87). -/
theorem Session.LedgerSound.unique {x : Session} (sound : x.LedgerSound) {e e' : Entry} (mem : e ∈ x.ledger)
    (mem' : e' ∈ x.ledger) (same : e'.segment = e.segment) : e' = e :=
  have ⟨rising, _⟩ := sound
  entry_unique_of_segments rising mem mem' same

/-- A change of the one entry of a segment number puts a given entry in its place. -/
theorem updateLedger_eq_withEntry {x : Session} {e : Entry} (sound : x.LedgerSound) (mem : e ∈ x.ledger)
    (f : Entry → Entry) : updateLedger e.segment f x.ledger = (x.withEntry e.segment (f e)).ledger := by
  refine List.map_congr_left fun e' mem' => ?_
  by_cases same : e'.segment = e.segment
  · rw [if_pos same, if_pos same, sound.unique mem mem' same]
  · rw [if_neg same, if_neg same]

/-! ### Figures that a change of arrived bytes leaves alone (R88, R92) -/

section figures

variable {g : Entry → Entry} (state : ∀ e, (g e).state = e.state)
include state

theorem readyPrefix_map (ledger : List Entry) : readyPrefix (ledger.map g) = (readyPrefix ledger).map g := by
  unfold readyPrefix
  rw [List.takeWhile_map]
  congr 2
  funext e
  simp [state]

theorem readyRun_map (ledger : List Entry) : readyRun (ledger.map g) = (readyRun ledger).map g := by
  cases ledger with
  | nil => rfl
  | cons e es =>
    have run := readyPrefix_map state (e :: es)
    simp only [List.map_cons, readyRun, state] at run ⊢
    split
    · rw [readyPrefix_map state, List.map_cons]
    · exact run

theorem blockingEntry_map (ledger : List Entry) : blockingEntry (ledger.map g) = (blockingEntry ledger).map g := by
  simp only [blockingEntry, readyRun_map state, List.length_map, List.getElem?_map]

theorem bufferedMs_map (playtime : ∀ e, (g e).playtime = e.playtime) (ledger : List Entry) :
    bufferedMs (ledger.map g) = bufferedMs ledger := by
  have same : Entry.playtime ∘ g = Entry.playtime := funext playtime
  simp only [bufferedMs, readyRun_map state, List.map_map, same]

end figures

/-! ### The abandonment check (R110, R111) -/

/-- Zone PANIC or LEAN: buffered_ms below one of the two levels (R52). -/
theorem Session.zone_low_iff (x : Session) :
    (x.zone = .panic ∨ x.zone = .lean) ↔
      bufferedMs x.ledger < x.config.panicLevel ∨ bufferedMs x.ledger < x.config.steadyLevel := by
  unfold Session.zone
  simp only
  split
  · next panic => simp [panic]
  · next above =>
    split
    · next lean => simp [lean]
    · next steady => simp [above, steady]

/-- The check as the relation that the statements speak of. -/
theorem State.abandons_iff (s : State) (i : SessionId) (e : Entry) :
    (s.mayAbandon i e && s.mustAbandon i e) = true ↔ s.AbandonmentDue i e e.arrived := by
  have low := (s.session i).zone_low_iff
  have split : (s.mayAbandon i e && s.mustAbandon i e) = true ↔
      e.state = .active ∧ blockingEntry (s.session i).ledger = some e ∧ (s.session i).state = .running ∧
        (s.session i).parked = false ∧ ((s.session i).zone = .panic ∨ (s.session i).zone = .lean) ∧
        (s.ladderOf i).floor < e.issue.bitrate ∧ e.arrived * 4 < e.issue.expected * 3 ∧
        (bufferedMs (s.session i).ledger : Int) - ((s.session i).config.abandonGuard : Int)
          < (projection e.arrived e.issue.expected (s.session i).share : Int) := by
    simp [State.mayAbandon, State.mustAbandon, and_assoc]
  rw [split, low]
  rfl

/-! ### ARRIVAL -/

/-- Bytes credited to an entry (R80). -/
def Entry.credit (count : Nat) (e : Entry) : Entry := { e with arrived := saturate max32 (e.arrived + count) }

/-- Bytes credited to a session's counters (R80, R73). -/
def Statistics.credit (count : Nat) (n : Statistics) : Statistics :=
  { n with bytesArrived := saturate max32 (n.bytesArrived + count) }

/-- Steps 1 to 3 of an ARRIVAL on a TAKEN slot: the credits, and the watchdog from 0 (R130, R135). -/
def State.credited (s : State) (j : SlotId) (tag : Nat) (r : EntryRef) (count : Nat) : State :=
  ((s.creditWindow count).creditEntry r count).setSlot j (.taken tag r 0 s.params.stallLimit)

theorem State.arriveTaken_eq (s : State) (j : SlotId) (tag : Nat) (r : EntryRef) (count : Nat) :
    s.arriveTaken j tag r count = ((s.credited j tag r count).checkAbandonment j r).answerFetch .ack := rfl

@[simp] theorem State.credited_now (s : State) (j : SlotId) (tag : Nat) (r : EntryRef) (count : Nat) :
    (s.credited j tag r count).now = s.now := rfl

theorem State.credited_session (s : State) (j : SlotId) (tag : Nat) (r : EntryRef) (count : Nat) (k : SessionId) :
    (s.credited j tag r count).session k
      = if k = r.session then
          { s.session k with
            ledger := updateLedger r.segment (Entry.credit count) (s.session k).ledger
            stats := (s.session k).stats.credit count }
        else s.session k := by
  unfold State.credited State.creditEntry
  by_cases same : k = r.session
  · subst same
    simp only [State.setSlot_session, State.modifySession_session, State.updateEntry_session, if_true]
    rfl
  · simp [State.updateEntry_session, same]

theorem State.credited_slot (s : State) (j : SlotId) (tag : Nat) (r : EntryRef) (count : Nat) (k : SlotId) :
    (s.credited j tag r count).slot k = if k = j then .taken tag r 0 s.params.stallLimit else s.slot k :=
  State.setSlot_slot _ j k _

theorem State.credited_entry? (s : State) (j : SlotId) (tag : Nat) (r : EntryRef) (count : Nat) :
    (s.credited j tag r count).entry? r = (s.entry? r).map (Entry.credit count) := by
  unfold State.entry?
  rw [State.credited_session, if_pos rfl]
  exact findEntry_updateLedger (f := Entry.credit count) (fun _ => rfl) _

/-- The credits leave the abandonment check as it would be before them, but for the arrived bytes. -/
theorem State.credited_abandonmentDue {s : State} {r : EntryRef} {e : Entry} (sound : s.LedgersSound)
    (named : s.entry? r = some e) (j : SlotId) (tag count arrived : Nat) :
    (s.credited j tag r count).AbandonmentDue r.session (e.credit count) arrived
      ↔ s.AbandonmentDue r.session e arrived := by
  have state (e' : Entry) : (onSegment r.segment (Entry.credit count) e').state = e'.state := by
    unfold onSegment; split <;> rfl
  have playtime (e' : Entry) : (onSegment r.segment (Entry.credit count) e').playtime = e'.playtime := by
    unfold onSegment; split <;> rfl
  have segment : e.segment = r.segment := State.entry?_segment named
  have mem : e ∈ (s.session r.session).ledger := List.mem_of_find?_eq_some named
  have here : onSegment r.segment (Entry.credit count) e = e.credit count := if_pos segment
  have blocking : blockingEntry (updateLedger r.segment (Entry.credit count) (s.session r.session).ledger)
      = some (e.credit count) ↔ blockingEntry (s.session r.session).ledger = some e := by
    rw [updateLedger_eq, blockingEntry_map state]
    constructor
    · intro credited
      obtain ⟨e', found, same⟩ := Option.map_eq_some_iff.mp credited
      have number : e'.segment = e.segment := by
        have kept := onSegment_segment (segment := r.segment) (f := Entry.credit count) (fun _ => rfl) e'
        rw [← kept, same]; rfl
      rw [found, (sound r.session).unique mem (List.mem_of_getElem? found) number]
    · intro found
      rw [found, Option.map_some, here]
  have buffered : bufferedMs (updateLedger r.segment (Entry.credit count) (s.session r.session).ledger)
      = bufferedMs (s.session r.session).ledger := bufferedMs_map state playtime _
  have session := s.credited_session j tag r count r.session
  rw [if_pos rfl] at session
  have ladder : (s.credited j tag r count).ladderOf r.session = s.ladderOf r.session := by
    simp only [State.ladderOf, session]; rfl
  unfold State.AbandonmentDue
  simp only [session, ladder, blocking, buffered]
  rfl

/-- An abandonment's change of the entry (R112). -/
def Entry.abandoned (now : Nat) (e : Entry) : Entry :=
  { e.toWaiting now with upperBound := some e.issue.bitrate, lowered := true }

/-- An abandonment's count (R112, R73). -/
def Statistics.countAbandonment (n : Statistics) : Statistics := { n with abandonments := count16 n.abandonments }

/-- A fetch given up by an abandonment: the cancellation with its copies kept, the entry, the count (R112, R122). -/
def State.giveUp (s : State) (j : SlotId) (tag : Nat) (r : EntryRef) (kept : Issue) : State :=
  ({ s.setSlot j (.cancelling tag (some r) kept false) with
      cancelList := s.cancelList ++ [tag] }.updateEntry r (Entry.abandoned s.now)).modifySession r.session fun x =>
    { x with stats := x.stats.countAbandonment }

theorem State.abandon_taken {s : State} {j : SlotId} {tag elapsed limit : Nat} {r : EntryRef} {e : Entry}
    (taken : s.slot j = .taken tag r elapsed limit) (named : s.entry? r = some e) :
    s.abandon j r = s.giveUp j tag r e.issue := by
  have kept : s.keptCopies r = e.issue := by simp [State.keptCopies, named]
  simp only [State.abandon, State.cancelSlot, taken, kept]
  rfl

theorem State.giveUp_slot (s : State) (j : SlotId) (tag : Nat) (r : EntryRef) (kept : Issue) (k : SlotId) :
    (s.giveUp j tag r kept).slot k = if k = j then .cancelling tag (some r) kept false else s.slot k :=
  s.setSlot_slot j k _

theorem State.giveUp_session (s : State) (j : SlotId) (tag : Nat) (r : EntryRef) (kept : Issue) (k : SessionId) :
    (s.giveUp j tag r kept).session k
      = if k = r.session then
          { s.session k with
            ledger := updateLedger r.segment (Entry.abandoned s.now) (s.session k).ledger
            stats := (s.session k).stats.countAbandonment }
        else s.session k := by
  unfold State.giveUp
  by_cases same : k = r.session
  · subst same
    simp only [State.modifySession_session, State.updateEntry_session, if_true]
    rfl
  · simp only [State.modifySession_session, State.updateEntry_session, same, if_false]
    rfl

theorem exec_arrival_cancelling {tag : Byte} {count : BitVec 16} {s : State} {j : SlotId} {back : Option EntryRef}
    {kept : Issue} {owed : Bool} (running : s.inReset = false) (sound : s.TagsSound)
    (cancelling : s.slot j = .cancelling tag.toNat back kept owed) :
    exec (.arrival tag count) s = .next ((s.creditWindow count.toNat).answerFetch .ack) := by
  have found : s.slotOfTag tag.toNat = some j := State.slotOfTag_eq sound (by rw [cancelling]; rfl)
  show execArrival tag count s = _
  rw [execArrival, takeRecord_running _ running]
  simp only [found, cancelling]

theorem exec_arrival_taken {tag : Byte} {count : BitVec 16} {s : State} {j : SlotId} {r : EntryRef} {elapsed limit : Nat}
    (running : s.inReset = false) (sound : s.TagsSound) (taken : s.slot j = .taken tag.toNat r elapsed limit) :
    exec (.arrival tag count) s = .next (s.arriveTaken j tag.toNat r count.toNat) := by
  have found : s.slotOfTag tag.toNat = some j := State.slotOfTag_eq sound (by rw [taken]; rfl)
  show execArrival tag count s = _
  rw [execArrival, takeRecord_running _ running]
  simp only [found, taken]

/-- The check on the state the credits leave: an abandonment where one is due, else nothing. -/
theorem State.credited_check {s : State} {r : EntryRef} {e : Entry} (sound : s.LedgersSound)
    (named : s.entry? r = some e) (j : SlotId) (tag count : Nat) :
    (s.AbandonmentDue r.session e (e.credit count).arrived ∧
      (s.credited j tag r count).checkAbandonment j r = (s.credited j tag r count).abandon j r) ∨
    (¬s.AbandonmentDue r.session e (e.credit count).arrived ∧
      (s.credited j tag r count).checkAbandonment j r = s.credited j tag r count) := by
  have entry : (s.credited j tag r count).entry? r = some (e.credit count) := by
    rw [State.credited_entry?, named]; rfl
  have due := (State.abandons_iff _ _ _).trans
    (State.credited_abandonmentDue sound named j tag count (e.credit count).arrived)
  unfold State.checkAbandonment
  rw [entry]
  simp only
  split
  · next yes => exact .inl ⟨due.mp yes, rfl⟩
  · next no => exact .inr ⟨mt due.mpr no, rfl⟩

end Sys2Proof.Machine

namespace Sys2Proof.Proofs

/-- Settles O32: the credits in both cases, and on a TAKEN slot the abandonment check on what they leave. -/
theorem arrivalCreditsAndMayAbandon : Obligations.ArrivalCreditsAndMayAbandon := by
  intro j tag count s running tags ledgers
  refine ⟨fun back kept owed cancelling => exec_arrival_cancelling running tags cancelling,
    fun r elapsed limit e taken named => ?_⟩
  have arrived := exec_arrival_taken (count := count) running tags taken
  rw [State.arriveTaken_eq] at arrived
  have segment : e.segment = r.segment := State.entry?_segment named
  have mem : e ∈ (s.session r.session).ledger := List.mem_of_find?_eq_some named
  obtain ⟨due, checked⟩ | ⟨not_due, checked⟩ := State.credited_check ledgers named j tag.toNat count.toNat
  · have credited : (s.credited j tag.toNat r count.toNat).slot j = .taken tag.toNat r 0 s.params.stallLimit := by
      rw [State.credited_slot, if_pos rfl]
    have entry : (s.credited j tag.toNat r count.toNat).entry? r = some (e.credit count.toNat) := by
      rw [State.credited_entry?, named]; rfl
    rw [checked, State.abandon_taken credited entry] at arrived
    refine ⟨_, arrived, rfl, fun k other => ?_, fun k other => ?_, fun not_due => absurd due not_due, fun _ => ⟨?_, rfl, ?_⟩⟩
    · rw [State.answerFetch_slot, State.giveUp_slot, if_neg other, State.credited_slot, if_neg other]
    · rw [State.answerFetch_session, State.giveUp_session, if_neg other, State.credited_session, if_neg other]
    · rw [State.answerFetch_slot, State.giveUp_slot, if_pos rfl]
      rfl
    · have both := updateLedger_eq_withEntry (ledgers r.session) mem fun e => (e.credit count.toNat).abandoned s.now
      rw [State.answerFetch_session, State.giveUp_session, if_pos rfl, State.credited_session, if_pos rfl,
        State.credited_now, updateLedger_updateLedger (f := Entry.credit count.toNat) fun _ => rfl, ← segment, both]
      rfl
  · rw [checked] at arrived
    refine ⟨_, arrived, rfl, fun k other => ?_, fun k other => ?_, fun _ => ⟨?_, rfl, ?_⟩, fun due => absurd due not_due⟩
    · rw [State.answerFetch_slot, State.credited_slot, if_neg other]
    · rw [State.answerFetch_session, State.credited_session, if_neg other]
    · rw [State.answerFetch_slot, State.credited_slot, if_pos rfl]
    · rw [State.answerFetch_session, State.credited_session, if_pos rfl, ← segment,
        updateLedger_eq_withEntry (ledgers r.session) mem]
      rfl

end Sys2Proof.Proofs
end

