-- ==== Sys2Proof/Proofs/Selection.lean ====
section
/-! PROOFS. The searches of a ladder as the relations of the statements, and with them the selection of a rung and the lookup for a held
segment (R98–R105, R108). -/

open Sys2Proof Sys2Proof.Machine

namespace Sys2Proof.Machine

/-! ### Searches of a ladder (R98, R100, R104) -/

/-- The head of a list in a strict order is its one member with every other member after it. -/
theorem head?_eq_some_iff_of_pairwise {α : Type} {before : α → α → Prop} (asymm : ∀ a b, before a b → ¬before b a)
    {items : List α} (ordered : items.Pairwise before) {a : α} :
    items.head? = some a ↔ a ∈ items ∧ ∀ b ∈ items, b = a ∨ before a b := by
  cases items with
  | nil => simp
  | cons first rest =>
    obtain ⟨first_before, -⟩ := List.pairwise_cons.mp ordered
    constructor
    · rintro ⟨⟩
      exact ⟨List.mem_cons_self, fun b mem => (List.mem_cons.mp mem).imp_right (first_before b)⟩
    · rintro ⟨mem, least⟩
      obtain rfl | later := List.mem_cons.mp mem
      · rfl
      · obtain rfl | earlier := least first List.mem_cons_self
        · rfl
        · exact absurd earlier (asymm _ _ (first_before a later))

/-- The enabled rungs that meet a condition on index and bitrate, each with its index: the list both searches of a ladder read. -/
def Ladder.meeting (l : Ladder) (p : Nat → Nat → Bool) : List (Rung × Nat) :=
  l.rungs.zipIdx.filter fun (g, k) => g.enabled && p k g.bitrate

theorem Ladder.highest_eq (l : Ladder) (p : Nat → Nat → Bool) : l.highest p = (l.meeting p).getLast?.map (·.2) := rfl

theorem Ladder.lowest_eq (l : Ladder) (p : Nat → Nat → Bool) : l.lowest p = (l.meeting p).head?.map (·.2) := rfl

theorem Ladder.mem_meeting {l : Ladder} {p : Nat → Nat → Bool} {g : Rung} {k : Nat} :
    (g, k) ∈ l.meeting p ↔ l.rungs[k]? = some g ∧ g.enabled = true ∧ p k g.bitrate = true := by
  simp [Ladder.meeting, List.mk_mem_zipIdx_iff_getElem?]

theorem Ladder.meeting_rising (l : Ladder) (p : Nat → Nat → Bool) : (l.meeting p).Pairwise fun a b => a.2 < b.2 := by
  have indices : (l.rungs.zipIdx.map (·.2)).Pairwise (· < ·) := by
    rw [List.zipIdx_map_snd]
    exact List.pairwise_lt_range'
  exact (List.pairwise_map.mp indices).filter _

/-- The search upward finds the enabled rung that meets the condition with none such below it. -/
theorem Ladder.lowest_eq_some_iff {l : Ladder} {p : Nat → Nat → Bool} {r : Nat} :
    l.lowest p = some r ↔ (∃ g, l.rungs[r]? = some g ∧ g.enabled = true ∧ p r g.bitrate = true) ∧
      ∀ k h, k < r → l.rungs[k]? = some h → h.enabled = true → ¬p k h.bitrate = true := by
  rw [Ladder.lowest_eq, Option.map_eq_some_iff]
  simp only [head?_eq_some_iff_of_pairwise (fun _ _ => Nat.lt_asymm) (l.meeting_rising p), Prod.exists, Prod.forall,
    Ladder.mem_meeting]
  constructor
  · rintro ⟨g, _, ⟨found, least⟩, rfl⟩
    refine ⟨⟨g, found⟩, fun k h lower at_k on meets => ?_⟩
    obtain same | above := least h k ⟨at_k, on, meets⟩
    · exact Nat.ne_of_lt lower (congrArg Prod.snd same)
    · exact Nat.lt_asymm lower above
  · rintro ⟨⟨g, found⟩, none_lower⟩
    refine ⟨g, r, ⟨found, fun h k ⟨at_k, on, meets⟩ => ?_⟩, rfl⟩
    obtain lower | rfl | above := Nat.lt_trichotomy k r
    · exact absurd meets (none_lower k h lower at_k on)
    · exact .inl (by rw [Option.some.inj (at_k.symm.trans found.1)])
    · exact .inr above

/-- The search downward with rung 0 as its default: the enabled rung that meets the condition with none such above it, or 0 where no
enabled rung meets it. -/
theorem Ladder.highest_getD_cases {l : Ladder} {p : Nat → Nat → Bool} {r : Nat} (result : (l.highest p).getD 0 = r) :
    (∃ g, l.rungs[r]? = some g ∧ g.enabled = true ∧ p r g.bitrate = true ∧
      ∀ k h, r < k → l.rungs[k]? = some h → h.enabled = true → ¬p k h.bitrate = true) ∨
    (r = 0 ∧ ∀ k h, l.rungs[k]? = some h → h.enabled = true → ¬p k h.bitrate = true) := by
  rw [Ladder.highest_eq, List.getLast?_eq_head?_reverse] at result
  cases last : (l.meeting p).reverse.head? with
  | none =>
    have empty : l.meeting p = [] := by simpa using last
    rw [last] at result
    refine .inr ⟨result.symm, fun k h at_k on meets => ?_⟩
    have mem := Ladder.mem_meeting.mpr ⟨at_k, on, meets⟩
    rw [empty] at mem
    cases mem
  | some found =>
    obtain ⟨g, k⟩ := found
    rw [last] at result
    obtain rfl : k = r := result
    have falling := List.pairwise_reverse.mpr (l.meeting_rising p)
    obtain ⟨mem, greatest⟩ := (head?_eq_some_iff_of_pairwise (fun _ _ => Nat.lt_asymm) falling).mp last
    obtain ⟨at_r, on, meets⟩ := Ladder.mem_meeting.mp (List.mem_reverse.mp mem)
    refine .inl ⟨g, at_r, on, meets, fun n h higher at_n on_n meets_n => ?_⟩
    obtain same | below := greatest (h, n) (List.mem_reverse.mpr (Ladder.mem_meeting.mpr ⟨at_n, on_n, meets_n⟩))
    · exact Nat.ne_of_gt higher (congrArg Prod.snd same)
    · exact Nat.lt_asymm higher below

/-! ### The searches that the selection makes -/

/-- A search downward for a bitrate within `x`, however its condition is written, finds the highest rung within `x` (R43, R100, R105). -/
theorem Ladder.highest_isHighestWithin {l : Ladder} {p : Nat → Bool} {x : Nat}
    (within : ∀ g ∈ l.rungs, p g.bitrate = true ↔ g.bitrate ≤ x) :
    l.IsHighestWithin x ((l.highest fun _ => p).getD 0) := by
  obtain ⟨g, at_r, on, meets, none_above⟩ | ⟨zero, none_meets⟩ := Ladder.highest_getD_cases (l := l) (p := fun _ => p) rfl
  · refine .inl ⟨g, at_r, on, (within g (List.mem_of_getElem? at_r)).mp meets, fun k h above at_k on_k => ?_⟩
    exact Nat.lt_of_not_le fun le => none_above k h above at_k on_k ((within h (List.mem_of_getElem? at_k)).mpr le)
  · refine .inr ⟨zero, fun h mem on => ?_⟩
    obtain ⟨k, at_k⟩ := List.getElem?_of_mem mem
    exact Nat.lt_of_not_le fun le => none_meets k h at_k on ((within h mem).mpr le)

theorem Ladder.highestWithin_isHighestWithin (l : Ladder) (x : Nat) : l.IsHighestWithin x (l.highestWithin x) :=
  Ladder.highest_isHighestWithin fun _ _ => decide_eq_true_iff

theorem Ladder.highestUpTo_isHighestUpTo (l : Ladder) (c : Nat) : l.IsHighestUpTo c (l.highestUpTo c) := by
  obtain ⟨g, at_r, on, meets, none_above⟩ | ⟨zero, none_meets⟩ :=
    Ladder.highest_getD_cases (l := l) (p := fun k _ => decide (k ≤ c)) rfl
  · refine .inl ⟨of_decide_eq_true meets, ?_, fun k h above upTo at_k => ?_⟩
    · exact (Option.any_eq_true _ _).mpr ⟨g, at_r, on⟩
    · exact Bool.eq_false_iff.mpr fun on_k => none_above k h above at_k on_k (decide_eq_true upTo)
  · exact .inr ⟨zero, fun k h upTo at_k => Bool.eq_false_iff.mpr fun on_k => none_meets k h at_k on_k (decide_eq_true upTo)⟩

/-- The next enabled rung above `k` is the one the climb reads (R104). -/
theorem Ladder.IsLowestAbove.lowest_eq {l : Ladder} {k next : Nat} (above : l.IsLowestAbove k next) :
    (l.lowest fun r _ => decide (k < r)) = some next := by
  obtain ⟨higher, on, none_between⟩ := above
  obtain ⟨g, at_next, on_g⟩ := (Option.any_eq_true _ _).mp on
  refine Ladder.lowest_eq_some_iff.mpr ⟨⟨g, at_next, on_g, decide_eq_true higher⟩, fun n h below at_n on_h between => ?_⟩
  have off := none_between n h (of_decide_eq_true between) below at_n
  rw [on_h] at off
  cases off

/-! ### Valid ladders (R33) -/

theorem Ladder.Valid.bitrate_pos {l : Ladder} (valid : l.Valid) {g : Rung} (mem : g ∈ l.rungs) : 0 < g.bitrate := by
  obtain ⟨empty, -⟩ | ⟨-, -, -, ranges, -⟩ := valid
  · rw [empty] at mem
    cases mem
  · exact Nat.lt_of_lt_of_le (by decide) (ranges g mem).1

theorem Ladder.Valid.bitrate_lt {l : Ladder} (valid : l.Valid) {j k : Nat} {g h : Rung} (lower : j < k)
    (at_j : l.rungs[j]? = some g) (at_k : l.rungs[k]? = some h) : g.bitrate < h.bitrate := by
  obtain ⟨empty, -⟩ | ⟨-, -, rising, -, -⟩ := valid
  · rw [empty] at at_j
    cases at_j
  · obtain ⟨in_j, rfl⟩ := List.getElem?_eq_some_iff.mp at_j
    obtain ⟨in_k, rfl⟩ := List.getElem?_eq_some_iff.mp at_k
    exact List.pairwise_iff_getElem.mp (List.pairwise_map.mp rising) j k in_j in_k lower

/-- In a valid ladder no other rung has a rung's bitrate, so a search upward for that bitrate finds the rung (R108). -/
theorem Ladder.Valid.lowest_bitrate_iff {l : Ladder} (valid : l.Valid) (bitrate r : Nat) :
    (l.lowest fun _ b => b == bitrate) = some r ↔ ∃ g, l.rungs[r]? = some g ∧ g.enabled = true ∧ g.bitrate = bitrate := by
  simp only [Ladder.lowest_eq_some_iff, beq_iff_eq]
  refine and_iff_left_of_imp ?_
  rintro ⟨g, at_r, -, rfl⟩ k h lower at_k -
  exact Nat.ne_of_lt (valid.bitrate_lt lower at_k at_r)

/-! ### Zones (R52) -/

theorem Session.zone_panic_iff (x : Session) : x.zone = .panic ↔ bufferedMs x.ledger < x.config.panicLevel := by
  unfold Session.zone
  simp only
  split
  · next panic => simp [panic]
  · next above => split <;> simp [above]

theorem Session.zone_steady_iff {x : Session} (above : ¬bufferedMs x.ledger < x.config.panicLevel) :
    x.zone = .steady ↔ x.config.steadyLevel ≤ bufferedMs x.ledger := by
  unfold Session.zone
  simp only [if_neg above]
  split
  · next lean => simp [lean]
  · next steady => simp [Nat.le_of_not_lt steady]

/-! ### The steps of the selection (R99–R105) -/

theorem fitRung_unreserved (l : Ladder) (share : Nat) : fitRung l share .unreserved = l.highestWithin share := rfl

theorem fitRung_cap (l : Ladder) (share c : Nat) :
    fitRung l share (.cap c) = min (l.highestWithin share) (l.highestUpTo c) := rfl

theorem selectRung_pin {x : Session} {p : Nat} (pinned : x.reservation = .pin p) (l : Ladder) : selectRung x l none = p := by
  simp only [selectRung, pinned, boundRung]

theorem selectRung_unpinned {x : Session} (unpinned : ∀ p, x.reservation ≠ .pin p) (l : Ladder) :
    selectRung x l none = settleRung x l (fitRung l x.share x.reservation) := by
  unfold selectRung
  cases kind : x.reservation with
  | pin p => exact absurd kind (unpinned p)
  | cap c => rfl
  | unreserved => rfl

theorem settleRung_start {x : Session} (starts : x.state = .priming ∨ (x.state = .running ∧ x.currentRung = none))
    (l : Ladder) (fit : Nat) : settleRung x l fit = min fit (l.highestUpTo x.config.startCap) :=
  if_pos starts

theorem settleRung_starved {x : Session} (starved : x.state = .starved) (l : Ladder) (fit : Nat) : settleRung x l fit = 0 := by
  simp [settleRung, starved]

/-- RUNNING with a current rung: the floor in zone PANIC, else down or hold, else the climb (R102–R104). -/
theorem settleRung_running {x : Session} {k : Nat} (running : x.state = .running) (current : x.currentRung = some k)
    (l : Ladder) (fit : Nat) :
    settleRung x l fit = if x.zone = .panic then 0 else if fit ≤ k then fit else climbRung x l k := by
  simp [settleRung, running, current]

theorem climbRung_eq {l : Ladder} {k next : Nat} (above : l.IsLowestAbove k next) (x : Session) :
    climbRung x l k =
      if x.zone = .steady ∧ x.config.dwellSetting ≤ x.dwell ∧ l.bitrate next * x.config.upMargin ≤ x.share * 256 then next
      else k := by
  simp only [climbRung, above.lowest_eq]

/-- RUNNING with a current rung, by the buffer's levels in place of the zone. -/
theorem settleRung_running_by_buffer {x : Session} {k : Nat} (running : x.state = .running) (current : x.currentRung = some k)
    (l : Ladder) (fit : Nat) :
    if bufferedMs x.ledger < x.config.panicLevel then settleRung x l fit = 0
    else if fit ≤ k then settleRung x l fit = fit
    else ∀ next, l.IsLowestAbove k next →
      settleRung x l fit =
        if x.config.steadyLevel ≤ bufferedMs x.ledger ∧ x.config.dwellSetting ≤ x.dwell
            ∧ l.bitrate next * x.config.upMargin ≤ x.share * 256 then next
        else k := by
  rw [settleRung_running running current]
  simp only [x.zone_panic_iff]
  split
  · rfl
  · next noPanic =>
    split
    · rfl
    · intro next above
      rw [climbRung_eq above]
      simp only [Session.zone_steady_iff noPanic]

theorem selectRung_some (x : Session) (l : Ladder) (b : Nat) :
    selectRung x l (some b) =
      if b ≤ l.bitrate (selectRung x l none) then (l.highest fun _ y => decide (y < b)).getD 0 else selectRung x l none := rfl

/-- The upper-bound step's search; a bound of 0 too leaves rung 0, since every bitrate is above 0 (R105, R33). -/
theorem Ladder.Valid.highestBelow_isHighestWithin {l : Ladder} (valid : l.Valid) (b : Nat) :
    l.IsHighestWithin (b - 1) ((l.highest fun _ y => decide (y < b)).getD 0) :=
  Ladder.highest_isHighestWithin fun g mem => by
    have positive := valid.bitrate_pos mem
    rw [decide_eq_true_iff]
    omega

/-! ### The lookup for a held segment (R108) -/

/-- Under the three conditions the search is for the bitrate alone; a bitrate at or above the bound is never found. -/
theorem lookupRung_eq_some_iff {l : Ladder} (valid : l.Valid) (x : Session) (e : Entry) (r : Nat) :
    lookupRung x l e = some r ↔
      (e.unavailableSince.isSome = true ∧ (x.config.policy = .hold ∨ x.config.policy = .descend) ∧
        (∀ u ∈ e.upperBound, e.issue.bitrate < u)) ∧
      ∃ g, l.rungs[r]? = some g ∧ g.enabled = true ∧ g.bitrate = e.issue.bitrate := by
  unfold lookupRung
  split
  · next held =>
    obtain ⟨since, policy⟩ := held
    cases bound : e.upperBound with
    | none => simp [valid.lowest_bitrate_iff, since, policy]
    | some u =>
      by_cases below : e.issue.bitrate < u
      · have search : (fun _ b => b == e.issue.bitrate && decide (b < u) : Nat → Nat → Bool) = fun _ b => b == e.issue.bitrate := by
          funext _ b
          by_cases same : b = e.issue.bitrate <;> simp [same, below]
        simp [search, valid.lowest_bitrate_iff, since, policy, below]
      · have never : ∀ b, (b == e.issue.bitrate && decide (b < u)) = false := fun b => by
          by_cases same : b = e.issue.bitrate <;> simp [same, below]
        simp [Ladder.lowest_eq_some_iff, never, below]
  · next held =>
    simp only [reduceCtorEq, false_iff]
    exact fun ⟨⟨since, policy, _⟩, _⟩ => held ⟨since, policy⟩

end Sys2Proof.Machine

namespace Sys2Proof.Proofs

/-- Settles O44: the selection by its steps, each search as its relation; the lookup by `lookupRung_eq_some_iff`. -/
theorem selectionAndLookupFollowTheirSteps : Obligations.SelectionAndLookupFollowTheirSteps := by
  refine ⟨fun x l bound valid _ => ⟨fun p pinned => selectRung_pin pinned l, fun unpinned => ?_, ?_⟩,
    fun x l e valid r => lookupRung_eq_some_iff valid x e r⟩
  · rw [selectRung_unpinned unpinned]
    refine ⟨l.highestWithin x.share, fitRung l x.share x.reservation, l.highestWithin_isHighestWithin x.share, ?_, ?_, ?_, ?_, ?_⟩
    · intro unreserved
      rw [unreserved, fitRung_unreserved]
    · intro c capped
      exact ⟨l.highestUpTo c, l.highestUpTo_isHighestUpTo c, by rw [capped, fitRung_cap]⟩
    · intro starts
      exact ⟨_, l.highestUpTo_isHighestUpTo x.config.startCap, settleRung_start starts l _⟩
    · exact fun starved => settleRung_starved starved l _
    · exact fun k running current => settleRung_running_by_buffer running current l _
  · rintro b rfl
    rw [selectRung_some]
    split
    · exact valid.highestBelow_isHighestWithin b
    · rfl

end Sys2Proof.Proofs
end
